-- ==== Sys2Proof/Word.lean ====
section
/-! DEFINITION. The word types of the CP core (00_scope.md R7, R9, R10): every value is an unsigned bit vector of a stated
width, bit 0 the least significant, arithmetic wrapping. -/

namespace Sys2Proof

/-- A 16-bit data word: registers, buses, SU entries (R7). -/
abbrev Word := BitVec 16

/-- An 8-bit byte: RH registers, instruction-buffer bytes (R7). -/
abbrev Byte := BitVec 8

/-- A 4-bit value: link registers, the stack pointer, the modifier (R7). -/
abbrev Nibble := BitVec 4

/-- A 12-bit microinstruction address (R7). -/
abbrev MAddr := BitVec 12

/-- A 48-bit microinstruction word (R90). -/
abbrev MWord := BitVec 48

end Sys2Proof
end

