-- ==== Sys2Proof/Syntax.lean ====
section
/-! DEFINITION. The syntax of the microinstruction set (30_encoding.md). One microinstruction word is a `Micro`: the value of
every field at once (R90). `Instr` has one constructor per row of spec/opcode_table.json; because the format is horizontal (a
microinstruction is the conjunction of one row of each field), each constructor carries the whole microinstruction that codes
its row, and stands for that microinstruction seen through the row (notes/assumptions/1.md). -/

namespace Sys2Proof

/-- The operand pair (R, S) of the ALU, selected by `aS` (R92). -/
inductive SrcPair where
  /-- `(R[rA], Q)`, code 0 -/
  | aq
  /-- `(R[rA], R[rB])`, code 1 -/
  | ab
  /-- `(0, Q)`, code 2 -/
  | zq
  /-- `(0, R[rB])`, code 3 -/
  | zb
  /-- `(0, R[rA])`, code 4 -/
  | za
  /-- `(D, R[rA])`, code 5 -/
  | da
  /-- `(D, Q)`, code 6 -/
  | dq
  /-- `(D, 0)`, code 7 -/
  | dz
deriving DecidableEq, Repr, Inhabited

/-- The ALU function, selected by `aF` (R93). -/
inductive AluFn where
  /-- R + S, code 0 -/
  | add
  /-- S - R, code 1 -/
  | subr
  /-- R - S, code 2 -/
  | subs
  /-- R or S, code 3 -/
  | or
  /-- R and S, code 4 -/
  | and
  /-- not R, and S, code 5 -/
  | notrs
  /-- R xor S, code 6 -/
  | xor
  /-- not (R xor S), code 7 -/
  | xnor
deriving DecidableEq, Repr, Inhabited

/-- The low two bits `aD` of the write-back code (R94). -/
inductive WbSel where
  /-- code 0 -/
  | q
  /-- code 1 -/
  | none
  /-- code 2 -/
  | ba
  /-- code 3 -/
  | b
deriving DecidableEq, Repr, Inhabited

/-- The X-plane function `fX` (R105). -/
inductive XOp where
  /-- codes 0 to 7: call or return through `Link[i]` -/
  | link (i : BitVec 3)
  /-- code 8 -/
  | noop
  /-- code 9, `RH<-` -/
  | rhLoad
  /-- code 0xA -/
  | shift
  /-- code 0xB -/
  | cycle
  /-- code 0xC, `Cin<-pc16` -/
  | cinPc16
  /-- code 0xD, reserved (R112) -/
  | reserved
  /-- code 0xE -/
  | pop
  /-- code 0xF -/
  | push
deriving DecidableEq, Repr, Inhabited

/-- The Y-plane control operation, `fY` in Norm mode (R106). -/
inductive YNorm where
  /-- code 0, `ExitKernel` -/
  | exitKernel
  /-- code 1, `EnterKernel` -/
  | enterKernel
  /-- code 2, `ClrIntErr` -/
  | clrIntErr
  /-- code 3, `IBDisp` -/
  | ibDisp
  /-- code 4, `MesaIntRq` -/
  | mesaIntRq
  /-- code 5, `stackP<-` -/
  | stackPLoad
  /-- code 6, `IB<-` -/
  | ibLoad
  /-- code 7, `reserved` -/
  | reserved
  /-- code 8, `Noop` -/
  | noop
  /-- code 9, `Map<-` -/
  | map
  /-- code 10, `Refresh` -/
  | refresh
  /-- code 11, `push` -/
  | push
  /-- code 12, `ClrDPRq` -/
  | clrDPRq
  /-- code 13, `ClrIOPRq` -/
  | clrIOPRq
  /-- code 14, `ClrKFlags` -/
  | clrKFlags
  /-- code 15, `pop` -/
  | pop
deriving DecidableEq, Repr, Inhabited

/-- The Y-plane branch or dispatch operation, `fY` in DispBr mode (R107). -/
inductive YBranch where
  /-- code 0, `NegBr` -/
  | negBr
  /-- code 1, `ZeroBr` -/
  | zeroBr
  /-- code 2, `NZeroBr` -/
  | nZeroBr
  /-- code 3, `MesaIntBr` -/
  | mesaIntBr
  /-- code 4, `PgCarryBr` -/
  | pgCarryBr
  /-- code 5, `CarryBr` -/
  | carryBr
  /-- code 6, `XRefBr` -/
  | xRefBr
  /-- code 7, `NibCarryBr` -/
  | nibCarryBr
  /-- code 8, `XDisp` -/
  | xDisp
  /-- code 9, `YDisp` -/
  | yDisp
  /-- code 10, `XC2npcDisp` -/
  | xc2npcDisp
  /-- code 11, `YIODisp` -/
  | yIODisp
  /-- code 12, `XwdDisp` -/
  | xwdDisp
  /-- code 13, `XHDisp` -/
  | xhDisp
  /-- code 14, `XLDisp` -/
  | xlDisp
  /-- code 15, `PgCrOvDisp` -/
  | pgCrOvDisp
deriving DecidableEq, Repr, Inhabited

/-- The Z-plane function, `fZ` in Norm mode (R109). -/
inductive ZNorm where
  /-- code 0, refresh strobe -/
  | refresh
  /-- code 1, reserved, acts as Noop -/
  | reserved1
  /-- code 2, reserved, acts as Noop -/
  | reserved2
  /-- code 3, carry-in from `pc16` if the raw carry bit is 1 -/
  | cinPc16
  /-- code 4, reserved, acts as Noop -/
  | reserved4
  /-- code 5, pop -/
  | pop
  /-- code 6, push -/
  | push
  /-- code 7, dispatch whatever the buffer holds -/
  | alwaysIBDisp
  /-- code 8, Z plane idle -/
  | noop
  /-- code 9, reserved, acts as Noop -/
  | reserved9
  /-- code 10, reserved, acts as Noop -/
  | reservedA
  /-- code 11, reserved, acts as Noop -/
  | reservedB
  /-- code 12, `R[rA]` onto X -/
  | lrot0
  /-- code 13, `R[rA]` rotated left 12 onto X -/
  | lrot12
  /-- code 14, `R[rA]` rotated left 8 onto X -/
  | lrot8
  /-- code 15, `R[rA]` rotated left 4 onto X -/
  | lrot4
deriving DecidableEq, Repr, Inhabited

/-- The Z-plane input code, `fZ` in IOXIn mode (R110). -/
inductive ZInput where
  /-- code 0, device read 0 onto X -/
  | eiData
  /-- code 1, device read 1 onto X -/
  | eStatus
  /-- code 2, device read 2 onto X -/
  | kiData
  /-- code 3, device read 3 onto X -/
  | kStatus
  /-- code 4, device strobe 4 -/
  | kStrobe
  /-- code 5, device read 5 onto X -/
  | mStatus
  /-- code 6, device read 6 onto X -/
  | kTest
  /-- code 7, device strobe 7 -/
  | eStrobe
  /-- code 8, device read 8 onto X -/
  | iopIData
  /-- code 9, device read 9 onto X -/
  | iopStatus
  /-- code 10, error, buffer and stack status onto X -/
  | errIBStk
  /-- code 11, `RH[rB]` onto X -/
  | rh
  /-- code 12, front byte onto X, no advance -/
  | ibNA
  /-- code 13, front byte onto X, advance -/
  | ib
  /-- code 14, low nibble of the front byte onto X, advance -/
  | ibLow
  /-- code 15, high nibble of the front byte onto X, no advance -/
  | ibHigh
deriving DecidableEq, Repr, Inhabited

/-- The Y plane outside byte mode: three ways (R99, R100). -/
inductive YOp where
  /-- `yMode` 0: a control operation -/
  | norm (op : YNorm)
  /-- `yMode` 1: a branch or dispatch operation -/
  | branch (op : YBranch)
  /-- `yMode` 2: a device write to port `fY` (R108) -/
  | out (port : BitVec 4)
deriving DecidableEq, Repr, Inhabited

/-- The Z plane outside byte mode (R99, R102). -/
inductive ZOp where
  /-- `zMode` 0 -/
  | norm (op : ZNorm)
  /-- `zMode` 1: `fZ` is a 4-bit literal (R104) -/
  | nibble (imm : BitVec 4)
  /-- `zMode` 2: `fZ` is the low nibble of an SU address (R131) -/
  | uaddr (lo : BitVec 4)
  /-- `zMode` 3: status and data reads onto the X bus -/
  | input (op : ZInput)
deriving DecidableEq, Repr, Inhabited

/-- The fields `fS`, `fY` and `fZ` together. In byte mode (`yMode` 3) both planes are the literal and `zMode` selects nothing
(R99, R104); its two bits are kept so that no bit of the word is lost. -/
inductive Planes where
  /-- byte mode: the literal of `fY` and `fZ`, and the ignored `zMode` bits -/
  | byte (imm : BitVec 8) (zMode : BitVec 2)
  /-- any other mode: a Y-plane and a Z-plane operation -/
  | yz (y : YOp) (z : ZOp)
deriving DecidableEq, Repr, Inhabited

/-- One microinstruction: a value of every field of the 48-bit format (R90). -/
structure Micro where
  /-- register select A (R91) -/
  rA : BitVec 4
  /-- register select B (R91) -/
  rB : BitVec 4
  /-- source pair (R92) -/
  aS : SrcPair
  /-- ALU function (R93) -/
  aF : AluFn
  /-- low two bits of the write-back code (R94) -/
  aD : WbSel
  /-- parity bit, carried and never read (R95) -/
  ep : Bool
  /-- raw carry-in (R96) -/
  cin : Bool
  /-- SU enable (R97) -/
  enSU : Bool
  /-- memory operation of the cycle (R98) -/
  mem : Bool
  /-- X plane (R101) -/
  x : XOp
  /-- mode field, Y plane and Z plane (R99, R100, R102) -/
  planes : Planes
  /-- literal next address (R103) -/
  inia : MAddr
deriving DecidableEq, Repr, Inhabited

/-- The fourteen fields with the default value each has in the spec's notation (R115): the idle word. -/
def Micro.idle : Micro :=
  { rA := 0, rB := 0, aS := .aq, aF := .add, aD := .none, ep := false, cin := false, enSU := false, mem := false,
    x := .noop, planes := .yz (.norm .noop) (.norm .noop), inia := 0 }

/-- The instructions: one constructor per row of spec/opcode_table.json, in the table's order. `m` is the whole
microinstruction the row stands in; a further argument is the row's own operand (a literal, an address, or the shift-or-cycle
bit that the four shift rows leave free). -/
inductive Instr where
  /-- row 0, `aS=AQ`: source pair AQ (R140) -/
  | srcAQ (m : Micro)
  /-- row 1, `aS=AB`: source pair AB (R141) -/
  | srcAB (m : Micro)
  /-- row 2, `aS=0Q`: source pair 0Q (R142) -/
  | src0Q (m : Micro)
  /-- row 3, `aS=0B`: source pair 0B (R143) -/
  | src0B (m : Micro)
  /-- row 4, `aS=0A`: source pair 0A (R144) -/
  | src0A (m : Micro)
  /-- row 5, `aS=DA`: source pair DA (R145) -/
  | srcDA (m : Micro)
  /-- row 6, `aS=DQ`: source pair DQ (R146) -/
  | srcDQ (m : Micro)
  /-- row 7, `aS=D0`: source pair D0 (R147) -/
  | srcD0 (m : Micro)
  /-- row 8, `aF=ADD`: ALU function ADD (R151) -/
  | fnADD (m : Micro)
  /-- row 9, `aF=SUBR`: ALU function SUBR (R152) -/
  | fnSUBR (m : Micro)
  /-- row 10, `aF=SUBS`: ALU function SUBS (R153) -/
  | fnSUBS (m : Micro)
  /-- row 11, `aF=OR`: ALU function OR (R154) -/
  | fnOR (m : Micro)
  /-- row 12, `aF=AND`: ALU function AND (R155) -/
  | fnAND (m : Micro)
  /-- row 13, `aF=NOTRS`: ALU function NOTRS (R156) -/
  | fnNOTRS (m : Micro)
  /-- row 14, `aF=XOR`: ALU function XOR (R157) -/
  | fnXOR (m : Micro)
  /-- row 15, `aF=XNOR`: ALU function XNOR (R158) -/
  | fnXNOR (m : Micro)
  /-- row 16, `aD=Q (dest=0)`: write Q only (R171) -/
  | dest0Q (m : Micro)
  /-- row 17, `aD=NONE (dest=1)`: write no register (R172) -/
  | dest1NONE (m : Micro)
  /-- row 18, `aD=BA (dest=2)`: write `R[rB]`, drive the old `R[rA]` (R173) -/
  | dest2BA (m : Micro)
  /-- row 19, `aD=B (dest=3)`: write `R[rB]`, drive the result (R174) -/
  | dest3B (m : Micro)
  /-- row 20, `dest=4 (aD=0 with X:shift or X:cycle)`: double-word right shift or rotate (R175) -/
  | dest4DoubleRight (isCycle : Bool) (m : Micro)
  /-- row 21, `dest=5 (aD=1 with X:shift or X:cycle)`: single-word right shift or rotate (R176) -/
  | dest5SingleRight (isCycle : Bool) (m : Micro)
  /-- row 22, `dest=6 (aD=2 with X:shift or X:cycle)`: double-word left shift or rotate (R177) -/
  | dest6DoubleLeft (isCycle : Bool) (m : Micro)
  /-- row 23, `dest=7 (aD=3 with X:shift or X:cycle)`: single-word left shift or rotate (R178) -/
  | dest7SingleLeft (isCycle : Bool) (m : Micro)
  /-- row 24, `EP`: parity bit 1, carried and never interpreted (R95) -/
  | ep (m : Micro)
  /-- row 25, `Cin=1`: raw carry-in 1 (R180) -/
  | cin1 (m : Micro)
  /-- row 26, `Cin=0`: raw carry-in 0 (R180) -/
  | cin0 (m : Micro)
  /-- row 27, `SU<-Y (enSU, aS=AQ)`: SU write from the Y bus, source pair AQ (R340) -/
  | suWriteAQ (m : Micro)
  /-- row 28, `SU<-Y (enSU, aS=AB)`: SU write from the Y bus, source pair AB (R340) -/
  | suWriteAB (m : Micro)
  /-- row 29, `SU<-Y (enSU, aS=0Q)`: SU write from the Y bus, source pair 0Q (R340) -/
  | suWrite0Q (m : Micro)
  /-- row 30, `SU<-Y (enSU, aS=0B)`: SU write from the Y bus, source pair 0B (R340) -/
  | suWrite0B (m : Micro)
  /-- row 31, `SU<-Y (enSU, aS=0A)`: SU write from the Y bus, source pair 0A (R340) -/
  | suWrite0A (m : Micro)
  /-- row 32, `X<-SU (enSU, aS=DA)`: SU read onto the X bus, source pair DA (R215) -/
  | suReadDA (m : Micro)
  /-- row 33, `X<-SU (enSU, aS=DQ)`: SU read onto the X bus, source pair DQ (R215) -/
  | suReadDQ (m : Micro)
  /-- row 34, `X<-SU (enSU, aS=D0)`: SU read onto the X bus, source pair D0 (R215) -/
  | suReadD0 (m : Micro)
  /-- row 35, `mem (executed in cycle 1)`: address-register load (R231) -/
  | memCycle1 (m : Micro)
  /-- row 36, `mem (executed in cycle 2)`: data-register load (R234) -/
  | memCycle2 (m : Micro)
  /-- row 37, `mem (executed in cycle 3)`: data-register read (R236) -/
  | memCycle3 (m : Micro)
  /-- row 38, `X:Link0`: call or return through `Link[0]` (R359) -/
  | xLink0 (m : Micro)
  /-- row 39, `X:Link1`: call or return through `Link[1]` (R360) -/
  | xLink1 (m : Micro)
  /-- row 40, `X:Link2`: call or return through `Link[2]` (R361) -/
  | xLink2 (m : Micro)
  /-- row 41, `X:Link3`: call or return through `Link[3]` (R362) -/
  | xLink3 (m : Micro)
  /-- row 42, `X:Link4`: call or return through `Link[4]` (R363) -/
  | xLink4 (m : Micro)
  /-- row 43, `X:Link5`: call or return through `Link[5]` (R364) -/
  | xLink5 (m : Micro)
  /-- row 44, `X:Link6`: call or return through `Link[6]` (R365) -/
  | xLink6 (m : Micro)
  /-- row 45, `X:Link7`: call or return through `Link[7]` (R366) -/
  | xLink7 (m : Micro)
  /-- row 46, `X:Noop`: X plane idle (R111) -/
  | xNoop (m : Micro)
  /-- row 47, `X:RH<-`: `RH[rB] <- X[7:0]` (R218) -/
  | xRHLoad (m : Micro)
  /-- row 48, `X:shift`: write-back code 4 to 7, shift (R185) -/
  | xShift (m : Micro)
  /-- row 49, `X:cycle`: write-back code 4 to 7, rotate (R186) -/
  | xCycle (m : Micro)
  /-- row 50, `X:Cin<-pc16`: carry-in from `pc16` (R183) -/
  | xCinPc16 (m : Micro)
  /-- row 51, `X:reserved`: reserved, acts as Noop (R112) -/
  | xReserved (m : Micro)
  /-- row 52, `X:pop`: pop (R337) -/
  | xPop (m : Micro)
  /-- row 53, `X:push`: push (R338) -/
  | xPush (m : Micro)
  /-- row 54, `Y:ExitKernel`: signal the Kernel exit in cycle 1 (R250) -/
  | yExitKernel (m : Micro)
  /-- row 55, `Y:EnterKernel`: wake the Kernel (R251) -/
  | yEnterKernel (m : Micro)
  /-- row 56, `Y:ClrIntErr`: clear the error set and the macro interrupt (R252) -/
  | yClrIntErr (m : Micro)
  /-- row 57, `Y:IBDisp`: request an instruction-buffer dispatch (R253) -/
  | yIBDisp (m : Micro)
  /-- row 58, `Y:MesaIntRq`: request a macro interrupt (R254) -/
  | yMesaIntRq (m : Micro)
  /-- row 59, `Y:stackP<-`: `stackP <- Y[3:0]` (R255) -/
  | yStackPLoad (m : Micro)
  /-- row 60, `Y:IB<-`: load the instruction buffer from X (R256) -/
  | yIBLoad (m : Micro)
  /-- row 61, `Y:reserved`: reserved, acts as Noop (R112) -/
  | yReserved (m : Micro)
  /-- row 62, `Y:Noop`: Y plane idle (R111) -/
  | yNoop (m : Micro)
  /-- row 63, `Y:Map<-`: mark the address load as mapped (R259) -/
  | yMap (m : Micro)
  /-- row 64, `Y:Refresh`: refresh strobe (R257) -/
  | yRefresh (m : Micro)
  /-- row 65, `Y:push`: push (R258) -/
  | yPush (m : Micro)
  /-- row 66, `Y:ClrDPRq`: clear the display request (R260) -/
  | yClrDPRq (m : Micro)
  /-- row 67, `Y:ClrIOPRq`: clear the IOP request (R261) -/
  | yClrIOPRq (m : Micro)
  /-- row 68, `Y:ClrKFlags`: clear the disk flags (R262) -/
  | yClrKFlags (m : Micro)
  /-- row 69, `Y:pop`: pop (R263) -/
  | yPop (m : Micro)
  /-- row 70, `Y:NegBr`: branch or dispatch NegBr (R270) -/
  | yNegBr (m : Micro)
  /-- row 71, `Y:ZeroBr`: branch or dispatch ZeroBr (R271) -/
  | yZeroBr (m : Micro)
  /-- row 72, `Y:NZeroBr`: branch or dispatch NZeroBr (R272) -/
  | yNZeroBr (m : Micro)
  /-- row 73, `Y:MesaIntBr`: branch or dispatch MesaIntBr (R273) -/
  | yMesaIntBr (m : Micro)
  /-- row 74, `Y:PgCarryBr`: branch or dispatch PgCarryBr (R274) -/
  | yPgCarryBr (m : Micro)
  /-- row 75, `Y:CarryBr`: branch or dispatch CarryBr (R275) -/
  | yCarryBr (m : Micro)
  /-- row 76, `Y:XRefBr`: branch or dispatch XRefBr (R276) -/
  | yXRefBr (m : Micro)
  /-- row 77, `Y:NibCarryBr`: branch or dispatch NibCarryBr (R277) -/
  | yNibCarryBr (m : Micro)
  /-- row 78, `Y:XDisp`: branch or dispatch XDisp (R278) -/
  | yXDisp (m : Micro)
  /-- row 79, `Y:YDisp`: branch or dispatch YDisp (R279) -/
  | yYDisp (m : Micro)
  /-- row 80, `Y:XC2npcDisp`: branch or dispatch XC2npcDisp (R280) -/
  | yXC2npcDisp (m : Micro)
  /-- row 81, `Y:YIODisp`: branch or dispatch YIODisp (R281) -/
  | yYIODisp (m : Micro)
  /-- row 82, `Y:XwdDisp`: branch or dispatch XwdDisp (R282) -/
  | yXwdDisp (m : Micro)
  /-- row 83, `Y:XHDisp`: branch or dispatch XHDisp (R283) -/
  | yXHDisp (m : Micro)
  /-- row 84, `Y:XLDisp`: branch or dispatch XLDisp (R284) -/
  | yXLDisp (m : Micro)
  /-- row 85, `Y:PgCrOvDisp`: branch or dispatch PgCrOvDisp (R285) -/
  | yPgCrOvDisp (m : Micro)
  /-- row 86, `Y:IOPOData<-`: write Y to device port 0 (R291) -/
  | yIOPOData (m : Micro)
  /-- row 87, `Y:IOPCtl<-`: write Y to device port 1 (R292) -/
  | yIOPCtl (m : Micro)
  /-- row 88, `Y:KOData<-`: write Y to device port 2 (R293) -/
  | yKOData (m : Micro)
  /-- row 89, `Y:KCtl<-`: write Y to device port 3 (R294) -/
  | yKCtl (m : Micro)
  /-- row 90, `Y:EOData<-`: write Y to device port 4 (R295) -/
  | yEOData (m : Micro)
  /-- row 91, `Y:EICtl<-`: write Y to device port 5 (R296) -/
  | yEICtl (m : Micro)
  /-- row 92, `Y:DCtlFifo<-`: write Y to device port 6 (R297) -/
  | yDCtlFifo (m : Micro)
  /-- row 93, `Y:DCtl<-`: write Y to device port 7 (R298) -/
  | yDCtl (m : Micro)
  /-- row 94, `Y:DBorder<-`: write Y to device port 8 (R299) -/
  | yDBorder (m : Micro)
  /-- row 95, `Y:PCtl<-`: write Y to device port 9 (R300) -/
  | yPCtl (m : Micro)
  /-- row 96, `Y:MCtl<-`: write Y to device port 10 (R301) -/
  | yMCtl (m : Micro)
  /-- row 97, `Y:Out11<-`: write Y to device port 11 (R302) -/
  | yOut11 (m : Micro)
  /-- row 98, `Y:EOCtl<-`: write Y to device port 12 (R303) -/
  | yEOCtl (m : Micro)
  /-- row 99, `Y:KCmd<-`: write Y to device port 13 (R304) -/
  | yKCmd (m : Micro)
  /-- row 100, `Y:Out14<-`: write Y to device port 14 (R305) -/
  | yOut14 (m : Micro)
  /-- row 101, `Y:POData<-`: write Y to device port 15 (R306) -/
  | yPOData (m : Micro)
  /-- row 102, `byte=0xNN`: byte literal on the X bus (R191) -/
  | byteLit (imm : BitVec 8) (m : Micro)
  /-- row 103, `Z:Refresh`: refresh strobe (R264) -/
  | zRefresh (m : Micro)
  /-- row 104, `Z:reserved (fZ=0x1)`: reserved, acts as Noop (R112) -/
  | zReserved1 (m : Micro)
  /-- row 105, `Z:reserved (fZ=0x2)`: reserved, acts as Noop (R112) -/
  | zReserved2 (m : Micro)
  /-- row 106, `Z:Cin<-pc16`: carry-in from `pc16` if the raw carry bit is 1 (R184) -/
  | zCinPc16 (m : Micro)
  /-- row 107, `Z:reserved (fZ=0x4)`: reserved, acts as Noop (R112) -/
  | zReserved4 (m : Micro)
  /-- row 108, `Z:pop`: pop (R341) -/
  | zPop (m : Micro)
  /-- row 109, `Z:push`: push (R342) -/
  | zPush (m : Micro)
  /-- row 110, `Z:AlwaysIBDisp`: dispatch whatever the buffer holds (R319) -/
  | zAlwaysIBDisp (m : Micro)
  /-- row 111, `Z:Noop`: Z plane idle (R111) -/
  | zNoop (m : Micro)
  /-- row 112, `Z:reserved (fZ=0x9)`: reserved, acts as Noop (R112) -/
  | zReserved9 (m : Micro)
  /-- row 113, `Z:reserved (fZ=0xA)`: reserved, acts as Noop (R112) -/
  | zReservedA (m : Micro)
  /-- row 114, `Z:reserved (fZ=0xB)`: reserved, acts as Noop (R112) -/
  | zReservedB (m : Micro)
  /-- row 115, `Z:LRot0`: `R[rA]` onto X (R220) -/
  | zLRot0 (m : Micro)
  /-- row 116, `Z:LRot12`: `R[rA]` rotated left 12 onto X (R221) -/
  | zLRot12 (m : Micro)
  /-- row 117, `Z:LRot8`: `R[rA]` rotated left 8 onto X (R222) -/
  | zLRot8 (m : Micro)
  /-- row 118, `Z:LRot4`: `R[rA]` rotated left 4 onto X (R223) -/
  | zLRot4 (m : Micro)
  /-- row 119, `nib=0xN`: nibble literal on the X bus (R192) -/
  | nibLit (imm : BitVec 4) (m : Micro)
  /-- row 120, `uaddr=0xN`: SU address low nibble (R216) -/
  | uaddr (lo : BitVec 4) (m : Micro)
  /-- row 121, `Z:<-EIData`: device read 0 onto X (R197) -/
  | zEIData (m : Micro)
  /-- row 122, `Z:<-EStatus`: device read 1 onto X (R198) -/
  | zEStatus (m : Micro)
  /-- row 123, `Z:<-KIData`: device read 2 onto X (R199) -/
  | zKIData (m : Micro)
  /-- row 124, `Z:<-KStatus`: device read 3 onto X (R200) -/
  | zKStatus (m : Micro)
  /-- row 125, `Z:KStrobe`: device strobe 4 (R201) -/
  | zKStrobe (m : Micro)
  /-- row 126, `Z:<-MStatus`: device read 5 onto X (R202) -/
  | zMStatus (m : Micro)
  /-- row 127, `Z:<-KTest`: device read 6 onto X (R203) -/
  | zKTest (m : Micro)
  /-- row 128, `Z:EStrobe`: device strobe 7 (R204) -/
  | zEStrobe (m : Micro)
  /-- row 129, `Z:<-IOPIData`: device read 8 onto X (R205) -/
  | zIOPIData (m : Micro)
  /-- row 130, `Z:<-IOPStatus`: device read 9 onto X (R206) -/
  | zIOPStatus (m : Micro)
  /-- row 131, `Z:<-ErrIBStk`: error, buffer and stack status onto X (R207) -/
  | zErrIBStk (m : Micro)
  /-- row 132, `Z:<-RH`: `RH[rB]` onto X (R208) -/
  | zRH (m : Micro)
  /-- row 133, `Z:<-ibNA`: front byte onto X, no advance (R209) -/
  | zIbNA (m : Micro)
  /-- row 134, `Z:<-ib`: front byte onto X, advance (R210) -/
  | zIb (m : Micro)
  /-- row 135, `Z:<-ibLow`: low nibble of the front byte onto X, advance (R211) -/
  | zIbLow (m : Micro)
  /-- row 136, `Z:<-ibHigh`: high nibble of the front byte onto X, no advance (R212) -/
  | zIbHigh (m : Micro)
  /-- row 137, `goto=0xNNN`: next-address literal (R351) -/
  | gotoInia (inia : BitVec 12) (m : Micro)
deriving DecidableEq, Repr

end Sys2Proof
end

