-- ==== Sys2Proof/WellFormed.lean ====
section
/-! DEFINITION. Well-formed instructions: a term of `Instr` is well formed when the microinstruction it carries really codes
the row its constructor names (30_encoding.md R90 to R110; the `unless` columns of spec/opcode_table.json are the "not in
byte mode" and "no shift or cycle" checks). -/

namespace Sys2Proof

/-- The X plane codes `shift` or `cycle`, the high bit of the write-back code (R121 to R123). -/
def XOp.isShiftOrCycle : XOp → Bool
  | .shift => true
  | .cycle => true
  | _ => false

/-- The Y-plane operation coded, none in byte mode. -/
def Planes.y? : Planes → Option YOp
  | .byte _ _ => none
  | .yz y _ => some y

/-- The Z-plane operation coded, none in byte mode. -/
def Planes.z? : Planes → Option ZOp
  | .byte _ _ => none
  | .yz _ z => some z

/-- The byte literal coded, none outside byte mode. -/
def Planes.byte? : Planes → Option (BitVec 8)
  | .byte imm _ => some imm
  | .yz _ _ => none

/-- The microinstruction carried codes the row named. -/
def WellFormed : Instr → Bool
  | .srcAQ m => decide (m.aS = .aq)
  | .srcAB m => decide (m.aS = .ab)
  | .src0Q m => decide (m.aS = .zq)
  | .src0B m => decide (m.aS = .zb)
  | .src0A m => decide (m.aS = .za)
  | .srcDA m => decide (m.aS = .da)
  | .srcDQ m => decide (m.aS = .dq)
  | .srcD0 m => decide (m.aS = .dz)
  | .fnADD m => decide (m.aF = .add)
  | .fnSUBR m => decide (m.aF = .subr)
  | .fnSUBS m => decide (m.aF = .subs)
  | .fnOR m => decide (m.aF = .or)
  | .fnAND m => decide (m.aF = .and)
  | .fnNOTRS m => decide (m.aF = .notrs)
  | .fnXOR m => decide (m.aF = .xor)
  | .fnXNOR m => decide (m.aF = .xnor)
  | .dest0Q m => decide (m.aD = .q) && !m.x.isShiftOrCycle
  | .dest1NONE m => decide (m.aD = .none) && !m.x.isShiftOrCycle
  | .dest2BA m => decide (m.aD = .ba) && !m.x.isShiftOrCycle
  | .dest3B m => decide (m.aD = .b) && !m.x.isShiftOrCycle
  | .dest4DoubleRight isCycle m => decide (m.aD = .q) && decide (m.x = if isCycle then .cycle else .shift)
  | .dest5SingleRight isCycle m => decide (m.aD = .none) && decide (m.x = if isCycle then .cycle else .shift)
  | .dest6DoubleLeft isCycle m => decide (m.aD = .ba) && decide (m.x = if isCycle then .cycle else .shift)
  | .dest7SingleLeft isCycle m => decide (m.aD = .b) && decide (m.x = if isCycle then .cycle else .shift)
  | .ep m => m.ep
  | .cin1 m => m.cin
  | .cin0 m => !m.cin
  | .suWriteAQ m => m.enSU && decide (m.aS = .aq)
  | .suWriteAB m => m.enSU && decide (m.aS = .ab)
  | .suWrite0Q m => m.enSU && decide (m.aS = .zq)
  | .suWrite0B m => m.enSU && decide (m.aS = .zb)
  | .suWrite0A m => m.enSU && decide (m.aS = .za)
  | .suReadDA m => m.enSU && decide (m.aS = .da)
  | .suReadDQ m => m.enSU && decide (m.aS = .dq)
  | .suReadD0 m => m.enSU && decide (m.aS = .dz)
  | .memCycle1 m => m.mem
  | .memCycle2 m => m.mem
  | .memCycle3 m => m.mem
  | .xLink0 m => decide (m.x = (.link 0))
  | .xLink1 m => decide (m.x = (.link 1))
  | .xLink2 m => decide (m.x = (.link 2))
  | .xLink3 m => decide (m.x = (.link 3))
  | .xLink4 m => decide (m.x = (.link 4))
  | .xLink5 m => decide (m.x = (.link 5))
  | .xLink6 m => decide (m.x = (.link 6))
  | .xLink7 m => decide (m.x = (.link 7))
  | .xNoop m => decide (m.x = .noop)
  | .xRHLoad m => decide (m.x = .rhLoad)
  | .xShift m => decide (m.x = .shift)
  | .xCycle m => decide (m.x = .cycle)
  | .xCinPc16 m => decide (m.x = .cinPc16)
  | .xReserved m => decide (m.x = .reserved)
  | .xPop m => decide (m.x = .pop)
  | .xPush m => decide (m.x = .push)
  | .yExitKernel m => decide (m.planes.y? = some (.norm .exitKernel))
  | .yEnterKernel m => decide (m.planes.y? = some (.norm .enterKernel))
  | .yClrIntErr m => decide (m.planes.y? = some (.norm .clrIntErr))
  | .yIBDisp m => decide (m.planes.y? = some (.norm .ibDisp))
  | .yMesaIntRq m => decide (m.planes.y? = some (.norm .mesaIntRq))
  | .yStackPLoad m => decide (m.planes.y? = some (.norm .stackPLoad))
  | .yIBLoad m => decide (m.planes.y? = some (.norm .ibLoad))
  | .yReserved m => decide (m.planes.y? = some (.norm .reserved))
  | .yNoop m => decide (m.planes.y? = some (.norm .noop))
  | .yMap m => decide (m.planes.y? = some (.norm .map))
  | .yRefresh m => decide (m.planes.y? = some (.norm .refresh))
  | .yPush m => decide (m.planes.y? = some (.norm .push))
  | .yClrDPRq m => decide (m.planes.y? = some (.norm .clrDPRq))
  | .yClrIOPRq m => decide (m.planes.y? = some (.norm .clrIOPRq))
  | .yClrKFlags m => decide (m.planes.y? = some (.norm .clrKFlags))
  | .yPop m => decide (m.planes.y? = some (.norm .pop))
  | .yNegBr m => decide (m.planes.y? = some (.branch .negBr))
  | .yZeroBr m => decide (m.planes.y? = some (.branch .zeroBr))
  | .yNZeroBr m => decide (m.planes.y? = some (.branch .nZeroBr))
  | .yMesaIntBr m => decide (m.planes.y? = some (.branch .mesaIntBr))
  | .yPgCarryBr m => decide (m.planes.y? = some (.branch .pgCarryBr))
  | .yCarryBr m => decide (m.planes.y? = some (.branch .carryBr))
  | .yXRefBr m => decide (m.planes.y? = some (.branch .xRefBr))
  | .yNibCarryBr m => decide (m.planes.y? = some (.branch .nibCarryBr))
  | .yXDisp m => decide (m.planes.y? = some (.branch .xDisp))
  | .yYDisp m => decide (m.planes.y? = some (.branch .yDisp))
  | .yXC2npcDisp m => decide (m.planes.y? = some (.branch .xc2npcDisp))
  | .yYIODisp m => decide (m.planes.y? = some (.branch .yIODisp))
  | .yXwdDisp m => decide (m.planes.y? = some (.branch .xwdDisp))
  | .yXHDisp m => decide (m.planes.y? = some (.branch .xhDisp))
  | .yXLDisp m => decide (m.planes.y? = some (.branch .xlDisp))
  | .yPgCrOvDisp m => decide (m.planes.y? = some (.branch .pgCrOvDisp))
  | .yIOPOData m => decide (m.planes.y? = some (.out 0))
  | .yIOPCtl m => decide (m.planes.y? = some (.out 1))
  | .yKOData m => decide (m.planes.y? = some (.out 2))
  | .yKCtl m => decide (m.planes.y? = some (.out 3))
  | .yEOData m => decide (m.planes.y? = some (.out 4))
  | .yEICtl m => decide (m.planes.y? = some (.out 5))
  | .yDCtlFifo m => decide (m.planes.y? = some (.out 6))
  | .yDCtl m => decide (m.planes.y? = some (.out 7))
  | .yDBorder m => decide (m.planes.y? = some (.out 8))
  | .yPCtl m => decide (m.planes.y? = some (.out 9))
  | .yMCtl m => decide (m.planes.y? = some (.out 10))
  | .yOut11 m => decide (m.planes.y? = some (.out 11))
  | .yEOCtl m => decide (m.planes.y? = some (.out 12))
  | .yKCmd m => decide (m.planes.y? = some (.out 13))
  | .yOut14 m => decide (m.planes.y? = some (.out 14))
  | .yPOData m => decide (m.planes.y? = some (.out 15))
  | .byteLit imm m => decide (m.planes.byte? = some imm)
  | .zRefresh m => decide (m.planes.z? = some (.norm .refresh))
  | .zReserved1 m => decide (m.planes.z? = some (.norm .reserved1))
  | .zReserved2 m => decide (m.planes.z? = some (.norm .reserved2))
  | .zCinPc16 m => decide (m.planes.z? = some (.norm .cinPc16))
  | .zReserved4 m => decide (m.planes.z? = some (.norm .reserved4))
  | .zPop m => decide (m.planes.z? = some (.norm .pop))
  | .zPush m => decide (m.planes.z? = some (.norm .push))
  | .zAlwaysIBDisp m => decide (m.planes.z? = some (.norm .alwaysIBDisp))
  | .zNoop m => decide (m.planes.z? = some (.norm .noop))
  | .zReserved9 m => decide (m.planes.z? = some (.norm .reserved9))
  | .zReservedA m => decide (m.planes.z? = some (.norm .reservedA))
  | .zReservedB m => decide (m.planes.z? = some (.norm .reservedB))
  | .zLRot0 m => decide (m.planes.z? = some (.norm .lrot0))
  | .zLRot12 m => decide (m.planes.z? = some (.norm .lrot12))
  | .zLRot8 m => decide (m.planes.z? = some (.norm .lrot8))
  | .zLRot4 m => decide (m.planes.z? = some (.norm .lrot4))
  | .nibLit imm m => decide (m.planes.z? = some (.nibble imm))
  | .uaddr lo m => decide (m.planes.z? = some (.uaddr lo))
  | .zEIData m => decide (m.planes.z? = some (.input .eiData))
  | .zEStatus m => decide (m.planes.z? = some (.input .eStatus))
  | .zKIData m => decide (m.planes.z? = some (.input .kiData))
  | .zKStatus m => decide (m.planes.z? = some (.input .kStatus))
  | .zKStrobe m => decide (m.planes.z? = some (.input .kStrobe))
  | .zMStatus m => decide (m.planes.z? = some (.input .mStatus))
  | .zKTest m => decide (m.planes.z? = some (.input .kTest))
  | .zEStrobe m => decide (m.planes.z? = some (.input .eStrobe))
  | .zIOPIData m => decide (m.planes.z? = some (.input .iopIData))
  | .zIOPStatus m => decide (m.planes.z? = some (.input .iopStatus))
  | .zErrIBStk m => decide (m.planes.z? = some (.input .errIBStk))
  | .zRH m => decide (m.planes.z? = some (.input .rh))
  | .zIbNA m => decide (m.planes.z? = some (.input .ibNA))
  | .zIb m => decide (m.planes.z? = some (.input .ib))
  | .zIbLow m => decide (m.planes.z? = some (.input .ibLow))
  | .zIbHigh m => decide (m.planes.z? = some (.input .ibHigh))
  | .gotoInia inia m => decide (m.inia = inia)

end Sys2Proof
end

