-- ==== Sys2Proof/Decode.lean ====
section
/-! DEFINITION. The decoder and the encoder of the 48-bit microinstruction word (30_encoding.md R90 to R139). The decoder is
pure and total: every word decodes, there is no illegal encoding (R113, R120), so no word is refused. The machine sees only
the typed `Micro`, never a raw code. -/

namespace Sys2Proof

/-! ### Code values -/

/-- The code of a source pair (R92). -/
def SrcPair.code : SrcPair → BitVec 3
  | .aq => 0
  | .ab => 1
  | .zq => 2
  | .zb => 3
  | .za => 4
  | .da => 5
  | .dq => 6
  | .dz => 7

/-- The SrcPair a code selects; total, every code has one. -/
def SrcPair.ofCode (c : BitVec 3) : SrcPair :=
  match c.toNat with
  | 0 => .aq
  | 1 => .ab
  | 2 => .zq
  | 3 => .zb
  | 4 => .za
  | 5 => .da
  | 6 => .dq
  | _ => .dz

/-- The code of an ALU function (R93). -/
def AluFn.code : AluFn → BitVec 3
  | .add => 0
  | .subr => 1
  | .subs => 2
  | .or => 3
  | .and => 4
  | .notrs => 5
  | .xor => 6
  | .xnor => 7

/-- The AluFn a code selects; total, every code has one. -/
def AluFn.ofCode (c : BitVec 3) : AluFn :=
  match c.toNat with
  | 0 => .add
  | 1 => .subr
  | 2 => .subs
  | 3 => .or
  | 4 => .and
  | 5 => .notrs
  | 6 => .xor
  | _ => .xnor

/-- The code of `aD` (R94, R115). -/
def WbSel.code : WbSel → BitVec 2
  | .q => 0
  | .none => 1
  | .ba => 2
  | .b => 3

/-- The WbSel a code selects; total, every code has one. -/
def WbSel.ofCode (c : BitVec 2) : WbSel :=
  match c.toNat with
  | 0 => .q
  | 1 => .none
  | 2 => .ba
  | _ => .b

/-- The code of a Y-plane control operation (R106). -/
def YNorm.code : YNorm → BitVec 4
  | .exitKernel => 0
  | .enterKernel => 1
  | .clrIntErr => 2
  | .ibDisp => 3
  | .mesaIntRq => 4
  | .stackPLoad => 5
  | .ibLoad => 6
  | .reserved => 7
  | .noop => 8
  | .map => 9
  | .refresh => 10
  | .push => 11
  | .clrDPRq => 12
  | .clrIOPRq => 13
  | .clrKFlags => 14
  | .pop => 15

/-- The YNorm a code selects; total, every code has one. -/
def YNorm.ofCode (c : BitVec 4) : YNorm :=
  match c.toNat with
  | 0 => .exitKernel
  | 1 => .enterKernel
  | 2 => .clrIntErr
  | 3 => .ibDisp
  | 4 => .mesaIntRq
  | 5 => .stackPLoad
  | 6 => .ibLoad
  | 7 => .reserved
  | 8 => .noop
  | 9 => .map
  | 10 => .refresh
  | 11 => .push
  | 12 => .clrDPRq
  | 13 => .clrIOPRq
  | 14 => .clrKFlags
  | _ => .pop

/-- The code of a branch or dispatch operation (R107). -/
def YBranch.code : YBranch → BitVec 4
  | .negBr => 0
  | .zeroBr => 1
  | .nZeroBr => 2
  | .mesaIntBr => 3
  | .pgCarryBr => 4
  | .carryBr => 5
  | .xRefBr => 6
  | .nibCarryBr => 7
  | .xDisp => 8
  | .yDisp => 9
  | .xc2npcDisp => 10
  | .yIODisp => 11
  | .xwdDisp => 12
  | .xhDisp => 13
  | .xlDisp => 14
  | .pgCrOvDisp => 15

/-- The YBranch a code selects; total, every code has one. -/
def YBranch.ofCode (c : BitVec 4) : YBranch :=
  match c.toNat with
  | 0 => .negBr
  | 1 => .zeroBr
  | 2 => .nZeroBr
  | 3 => .mesaIntBr
  | 4 => .pgCarryBr
  | 5 => .carryBr
  | 6 => .xRefBr
  | 7 => .nibCarryBr
  | 8 => .xDisp
  | 9 => .yDisp
  | 10 => .xc2npcDisp
  | 11 => .yIODisp
  | 12 => .xwdDisp
  | 13 => .xhDisp
  | 14 => .xlDisp
  | _ => .pgCrOvDisp

/-- The code of a Z-plane Norm function (R109). -/
def ZNorm.code : ZNorm → BitVec 4
  | .refresh => 0
  | .reserved1 => 1
  | .reserved2 => 2
  | .cinPc16 => 3
  | .reserved4 => 4
  | .pop => 5
  | .push => 6
  | .alwaysIBDisp => 7
  | .noop => 8
  | .reserved9 => 9
  | .reservedA => 10
  | .reservedB => 11
  | .lrot0 => 12
  | .lrot12 => 13
  | .lrot8 => 14
  | .lrot4 => 15

/-- The ZNorm a code selects; total, every code has one. -/
def ZNorm.ofCode (c : BitVec 4) : ZNorm :=
  match c.toNat with
  | 0 => .refresh
  | 1 => .reserved1
  | 2 => .reserved2
  | 3 => .cinPc16
  | 4 => .reserved4
  | 5 => .pop
  | 6 => .push
  | 7 => .alwaysIBDisp
  | 8 => .noop
  | 9 => .reserved9
  | 10 => .reservedA
  | 11 => .reservedB
  | 12 => .lrot0
  | 13 => .lrot12
  | 14 => .lrot8
  | _ => .lrot4

/-- The code of a Z-plane input (R110). -/
def ZInput.code : ZInput → BitVec 4
  | .eiData => 0
  | .eStatus => 1
  | .kiData => 2
  | .kStatus => 3
  | .kStrobe => 4
  | .mStatus => 5
  | .kTest => 6
  | .eStrobe => 7
  | .iopIData => 8
  | .iopStatus => 9
  | .errIBStk => 10
  | .rh => 11
  | .ibNA => 12
  | .ib => 13
  | .ibLow => 14
  | .ibHigh => 15

/-- The ZInput a code selects; total, every code has one. -/
def ZInput.ofCode (c : BitVec 4) : ZInput :=
  match c.toNat with
  | 0 => .eiData
  | 1 => .eStatus
  | 2 => .kiData
  | 3 => .kStatus
  | 4 => .kStrobe
  | 5 => .mStatus
  | 6 => .kTest
  | 7 => .eStrobe
  | 8 => .iopIData
  | 9 => .iopStatus
  | 10 => .errIBStk
  | 11 => .rh
  | 12 => .ibNA
  | 13 => .ib
  | 14 => .ibLow
  | _ => .ibHigh

/-- The code of an X-plane function (R105): the link index is the low three bits. -/
def XOp.code : XOp → BitVec 4
  | .link i => 0#1 ++ i
  | .noop => 8
  | .rhLoad => 9
  | .shift => 10
  | .cycle => 11
  | .cinPc16 => 12
  | .reserved => 13
  | .pop => 14
  | .push => 15

/-- The X-plane function a code selects (R105). -/
def XOp.ofCode (c : BitVec 4) : XOp :=
  match c.toNat with
  | 8 => .noop
  | 9 => .rhLoad
  | 10 => .shift
  | 11 => .cycle
  | 12 => .cinPc16
  | 13 => .reserved
  | 14 => .pop
  | 15 => .push
  | _ => .link (c.extractLsb' 0 3)

/-! ### Planes -/

/-- The mode field of the Y plane (R99). -/
def Planes.yMode : Planes → BitVec 2
  | .byte _ _ => 3
  | .yz (.norm _) _ => 0
  | .yz (.branch _) _ => 1
  | .yz (.out _) _ => 2

/-- The mode field of the Z plane (R99). -/
def Planes.zMode : Planes → BitVec 2
  | .byte _ zm => zm
  | .yz _ (.norm _) => 0
  | .yz _ (.nibble _) => 1
  | .yz _ (.uaddr _) => 2
  | .yz _ (.input _) => 3

/-- The field `fY`; in byte mode the high nibble of the literal (R104). -/
def Planes.fY : Planes → BitVec 4
  | .byte imm _ => imm.extractLsb' 4 4
  | .yz (.norm op) _ => op.code
  | .yz (.branch op) _ => op.code
  | .yz (.out port) _ => port

/-- The field `fZ`; in byte mode the low nibble of the literal (R104). -/
def Planes.fZ : Planes → BitVec 4
  | .byte imm _ => imm.extractLsb' 0 4
  | .yz _ (.norm op) => op.code
  | .yz _ (.nibble imm) => imm
  | .yz _ (.uaddr lo) => lo
  | .yz _ (.input op) => op.code

/-- The Z-plane operation of a mode and a code (R99, R109, R110). -/
def ZOp.ofFields (zMode : BitVec 2) (fZ : BitVec 4) : ZOp :=
  match zMode.toNat with
  | 0 => .norm (ZNorm.ofCode fZ)
  | 1 => .nibble fZ
  | 2 => .uaddr fZ
  | _ => .input (ZInput.ofCode fZ)

/-- The planes of a word: byte mode consumes `fZ` whatever `zMode` says (R99, R104). -/
def Planes.ofFields (yMode zMode : BitVec 2) (fY fZ : BitVec 4) : Planes :=
  match yMode.toNat with
  | 0 => .yz (.norm (YNorm.ofCode fY)) (ZOp.ofFields zMode fZ)
  | 1 => .yz (.branch (YBranch.ofCode fY)) (ZOp.ofFields zMode fZ)
  | 2 => .yz (.out fY) (ZOp.ofFields zMode fZ)
  | _ => .byte (fY ++ fZ) zMode

/-! ### The decoder of a word -/

/-- One bit of the word as a flag. -/
def bitAt (w : MWord) (i : Nat) : Bool := w.getLsbD i

/-- The fields of a word, at the positions of R90. -/
def decodeMicro (w : MWord) : Micro :=
  { rA := w.extractLsb' 44 4
    rB := w.extractLsb' 40 4
    aS := SrcPair.ofCode (w.extractLsb' 37 3)
    aF := AluFn.ofCode (w.extractLsb' 34 3)
    aD := WbSel.ofCode (w.extractLsb' 32 2)
    ep := bitAt w 31
    cin := bitAt w 30
    enSU := bitAt w 29
    mem := bitAt w 28
    x := XOp.ofCode (w.extractLsb' 16 4)
    planes := Planes.ofFields (w.extractLsb' 26 2) (w.extractLsb' 24 2) (w.extractLsb' 20 4) (w.extractLsb' 12 4)
    inia := w.extractLsb' 0 12 }

/-! ### The rows a microinstruction codes -/

/-- The `aS` row of a microinstruction. -/
def srcRow (m : Micro) : Instr :=
  match m.aS with
  | .aq => .srcAQ m
  | .ab => .srcAB m
  | .zq => .src0Q m
  | .zb => .src0B m
  | .za => .src0A m
  | .da => .srcDA m
  | .dq => .srcDQ m
  | .dz => .srcD0 m

/-- The `aF` row. -/
def fnRow (m : Micro) : Instr :=
  match m.aF with
  | .add => .fnADD m
  | .subr => .fnSUBR m
  | .subs => .fnSUBS m
  | .or => .fnOR m
  | .and => .fnAND m
  | .notrs => .fnNOTRS m
  | .xor => .fnXOR m
  | .xnor => .fnXNOR m

/-- The write-back row: codes 0 to 3 without, 4 to 7 with shift or cycle (R123). -/
def destRow (m : Micro) : Instr :=
  if m.x.isShiftOrCycle then
    match m.aD with
    | .q => .dest4DoubleRight (decide (m.x = .cycle)) m
    | .none => .dest5SingleRight (decide (m.x = .cycle)) m
    | .ba => .dest6DoubleLeft (decide (m.x = .cycle)) m
    | .b => .dest7SingleLeft (decide (m.x = .cycle)) m
  else
    match m.aD with
    | .q => .dest0Q m
    | .none => .dest1NONE m
    | .ba => .dest2BA m
    | .b => .dest3B m

/-- The `Cin` row. -/
def cinRow (m : Micro) : Instr := if m.cin then .cin1 m else .cin0 m

/-- The SU row of a microinstruction with `enSU`: a write for a pair without D, a read for a pair with D (R65, R130). -/
def suRow (m : Micro) : Instr :=
  match m.aS with
  | .aq => .suWriteAQ m
  | .ab => .suWriteAB m
  | .zq => .suWrite0Q m
  | .zb => .suWrite0B m
  | .za => .suWrite0A m
  | .da => .suReadDA m
  | .dq => .suReadDQ m
  | .dz => .suReadD0 m

/-- The X-plane row. -/
def xRow (m : Micro) : Instr :=
  match m.x with
  | .link i =>
    match i.toNat with
    | 0 => .xLink0 m
    | 1 => .xLink1 m
    | 2 => .xLink2 m
    | 3 => .xLink3 m
    | 4 => .xLink4 m
    | 5 => .xLink5 m
    | 6 => .xLink6 m
    | _ => .xLink7 m
  | .noop => .xNoop m
  | .rhLoad => .xRHLoad m
  | .shift => .xShift m
  | .cycle => .xCycle m
  | .cinPc16 => .xCinPc16 m
  | .reserved => .xReserved m
  | .pop => .xPop m
  | .push => .xPush m

/-- The row of a Y-plane control operation. -/
def yNormRow (op : YNorm) (m : Micro) : Instr :=
  match op with
  | .exitKernel => .yExitKernel m
  | .enterKernel => .yEnterKernel m
  | .clrIntErr => .yClrIntErr m
  | .ibDisp => .yIBDisp m
  | .mesaIntRq => .yMesaIntRq m
  | .stackPLoad => .yStackPLoad m
  | .ibLoad => .yIBLoad m
  | .reserved => .yReserved m
  | .noop => .yNoop m
  | .map => .yMap m
  | .refresh => .yRefresh m
  | .push => .yPush m
  | .clrDPRq => .yClrDPRq m
  | .clrIOPRq => .yClrIOPRq m
  | .clrKFlags => .yClrKFlags m
  | .pop => .yPop m

/-- The row of a branch or dispatch operation. -/
def yBranchRow (op : YBranch) (m : Micro) : Instr :=
  match op with
  | .negBr => .yNegBr m
  | .zeroBr => .yZeroBr m
  | .nZeroBr => .yNZeroBr m
  | .mesaIntBr => .yMesaIntBr m
  | .pgCarryBr => .yPgCarryBr m
  | .carryBr => .yCarryBr m
  | .xRefBr => .yXRefBr m
  | .nibCarryBr => .yNibCarryBr m
  | .xDisp => .yXDisp m
  | .yDisp => .yYDisp m
  | .xc2npcDisp => .yXC2npcDisp m
  | .yIODisp => .yYIODisp m
  | .xwdDisp => .yXwdDisp m
  | .xhDisp => .yXHDisp m
  | .xlDisp => .yXLDisp m
  | .pgCrOvDisp => .yPgCrOvDisp m

/-- The row of a device write. -/
def yOutRow (port : BitVec 4) (m : Micro) : Instr :=
  match port.toNat with
  | 0 => .yIOPOData m
  | 1 => .yIOPCtl m
  | 2 => .yKOData m
  | 3 => .yKCtl m
  | 4 => .yEOData m
  | 5 => .yEICtl m
  | 6 => .yDCtlFifo m
  | 7 => .yDCtl m
  | 8 => .yDBorder m
  | 9 => .yPCtl m
  | 10 => .yMCtl m
  | 11 => .yOut11 m
  | 12 => .yEOCtl m
  | 13 => .yKCmd m
  | 14 => .yOut14 m
  | _ => .yPOData m

/-- The row of a Y-plane operation. -/
def yRow (y : YOp) (m : Micro) : Instr :=
  match y with
  | .norm op => yNormRow op m
  | .branch op => yBranchRow op m
  | .out port => yOutRow port m

/-- The row of a Z-plane Norm function. -/
def zNormRow (op : ZNorm) (m : Micro) : Instr :=
  match op with
  | .refresh => .zRefresh m
  | .reserved1 => .zReserved1 m
  | .reserved2 => .zReserved2 m
  | .cinPc16 => .zCinPc16 m
  | .reserved4 => .zReserved4 m
  | .pop => .zPop m
  | .push => .zPush m
  | .alwaysIBDisp => .zAlwaysIBDisp m
  | .noop => .zNoop m
  | .reserved9 => .zReserved9 m
  | .reservedA => .zReservedA m
  | .reservedB => .zReservedB m
  | .lrot0 => .zLRot0 m
  | .lrot12 => .zLRot12 m
  | .lrot8 => .zLRot8 m
  | .lrot4 => .zLRot4 m

/-- The row of a Z-plane input. -/
def zInputRow (op : ZInput) (m : Micro) : Instr :=
  match op with
  | .eiData => .zEIData m
  | .eStatus => .zEStatus m
  | .kiData => .zKIData m
  | .kStatus => .zKStatus m
  | .kStrobe => .zKStrobe m
  | .mStatus => .zMStatus m
  | .kTest => .zKTest m
  | .eStrobe => .zEStrobe m
  | .iopIData => .zIOPIData m
  | .iopStatus => .zIOPStatus m
  | .errIBStk => .zErrIBStk m
  | .rh => .zRH m
  | .ibNA => .zIbNA m
  | .ib => .zIb m
  | .ibLow => .zIbLow m
  | .ibHigh => .zIbHigh m

/-- The row of a Z-plane operation. -/
def zRow (z : ZOp) (m : Micro) : Instr :=
  match z with
  | .norm op => zNormRow op m
  | .nibble imm => .nibLit imm m
  | .uaddr lo => .uaddr lo m
  | .input op => zInputRow op m

/-- Every row of the opcode table that a microinstruction codes, in the table's order (30_encoding.md section 3: a word
selects one row of each of aS, aF, the write-back code, Cin, fX, the Y plane, the Z plane and goto, plus the enSU, mem and EP
rows when those bits are 1; the three mem rows have one pattern and differ by the engine's cycle). -/
def rowsOf (m : Micro) : List Instr :=
  [srcRow m, fnRow m, destRow m] ++ (if m.ep then [.ep m] else []) ++ [cinRow m]
    ++ (if m.enSU then [suRow m] else []) ++ (if m.mem then [.memCycle1 m, .memCycle2 m, .memCycle3 m] else [])
    ++ [xRow m]
    ++ (match m.planes with
        | .byte imm _ => [.byteLit imm m]
        | .yz y z => [yRow y m, zRow z m])
    ++ [.gotoInia m.inia m]

/-- Every instruction the word codes: one view of the same microinstruction for each row it selects. -/
def decodeRows (w : MWord) : List Instr := rowsOf (decodeMicro w)

/-- The row a microinstruction is dispatched through: the first field, in the order below, that does not hold its code 0, and
`goto` when every field does. The choice has no effect on what runs: every row of a word runs the whole word
(DESIGN CHOICE, safe: notes/assumptions/1.md). -/
def principal (m : Micro) : Instr :=
  if m.enSU then suRow m
  else if m.mem then .memCycle1 m
  else if m.ep then .ep m
  else if m.cin then .cin1 m
  else
    match m.planes with
    | .byte imm _ => .byteLit imm m
    | .yz y z =>
      if y ≠ .norm .exitKernel then yRow y m
      else if z ≠ .norm .refresh then zRow z m
      else if m.x.isShiftOrCycle = true ∧ m.aD ≠ .q then destRow m
      else if m.x ≠ .link 0 then xRow m
      else if m.aD ≠ .q then destRow m
      else if m.aF ≠ .add then fnRow m
      else if m.aS ≠ .aq then srcRow m
      else .gotoInia m.inia m

/-- The decoder of a 48-bit word. Total: no word is refused (R113). -/
def decode (w : MWord) : Instr := principal (decodeMicro w)

/-- The instruction the decoder reads from an instruction whose low `nbits` bits are `w` and whose other bits are 0. The word
is one 48-bit value (R61), so bit k of `w` is bit k of the word; more than 48 bits is no microinstruction. -/
def decodeTableWord (nbits w : Nat) : Option Instr :=
  if nbits ≤ 48 then some (decode (BitVec.ofNat 48 (w % 2 ^ nbits))) else none

/-! ### The encoder -/

/-- The word of a microinstruction: the fields of R90 from bit 47 down. -/
def encodeMicro (m : Micro) : MWord :=
  m.rA ++ m.rB ++ m.aS.code ++ m.aF.code ++ m.aD.code ++ BitVec.ofBool m.ep ++ BitVec.ofBool m.cin
    ++ BitVec.ofBool m.enSU ++ BitVec.ofBool m.mem ++ m.planes.yMode ++ m.planes.zMode ++ m.planes.fY ++ m.x.code
    ++ m.planes.fZ ++ m.inia

/-! ### Coding a row into a microinstruction -/

/-- Code a source pair. -/
def Micro.withSrc (m : Micro) (p : SrcPair) : Micro := { m with aS := p }

/-- Code an ALU function. -/
def Micro.withFn (m : Micro) (f : AluFn) : Micro := { m with aF := f }

/-- Code a write-back code 0 to 3: neither shift nor cycle (R123). -/
def Micro.withPlainDest (m : Micro) (d : WbSel) : Micro :=
  { m with aD := d, x := if m.x.isShiftOrCycle then .noop else m.x }

/-- Code a write-back code 4 to 7: shift or cycle (R123, R185, R186). -/
def Micro.withShiftDest (m : Micro) (d : WbSel) (isCycle : Bool) : Micro :=
  { m with aD := d, x := if isCycle then .cycle else .shift }

/-- Code the parity bit. -/
def Micro.withEp (m : Micro) (b : Bool) : Micro := { m with ep := b }

/-- Code the raw carry-in. -/
def Micro.withCin (m : Micro) (b : Bool) : Micro := { m with cin := b }

/-- Code an SU access with a source pair (R130). -/
def Micro.withSu (m : Micro) (p : SrcPair) : Micro := { m with enSU := true, aS := p }

/-- Code the memory operation of the cycle. -/
def Micro.withMem (m : Micro) : Micro := { m with mem := true }

/-- Code an X-plane function. -/
def Micro.withX (m : Micro) (x : XOp) : Micro := { m with x := x }

/-- Code a Y-plane operation; it leaves byte mode, with the Z plane idle there. -/
def Micro.withY (m : Micro) (y : YOp) : Micro :=
  { m with planes := .yz y (m.planes.z?.getD (.norm .noop)) }

/-- Code a Z-plane operation; it leaves byte mode, with the Y plane idle there. -/
def Micro.withZ (m : Micro) (z : ZOp) : Micro :=
  { m with planes := .yz (m.planes.y?.getD (.norm .noop)) z }

/-- Code a byte literal, keeping the ignored `zMode` bits (R104). -/
def Micro.withByte (m : Micro) (imm : BitVec 8) : Micro := { m with planes := .byte imm m.planes.zMode }

/-- Code a next-address literal. -/
def Micro.withInia (m : Micro) (a : MAddr) : Micro := { m with inia := a }

/-- The microinstruction an instruction stands for: the one it carries with its own row coded in it. For a well-formed
instruction this is the one it carries. -/
def Instr.micro : Instr → Micro
  | .srcAQ m => m.withSrc .aq
  | .srcAB m => m.withSrc .ab
  | .src0Q m => m.withSrc .zq
  | .src0B m => m.withSrc .zb
  | .src0A m => m.withSrc .za
  | .srcDA m => m.withSrc .da
  | .srcDQ m => m.withSrc .dq
  | .srcD0 m => m.withSrc .dz
  | .fnADD m => m.withFn .add
  | .fnSUBR m => m.withFn .subr
  | .fnSUBS m => m.withFn .subs
  | .fnOR m => m.withFn .or
  | .fnAND m => m.withFn .and
  | .fnNOTRS m => m.withFn .notrs
  | .fnXOR m => m.withFn .xor
  | .fnXNOR m => m.withFn .xnor
  | .dest0Q m => m.withPlainDest .q
  | .dest1NONE m => m.withPlainDest .none
  | .dest2BA m => m.withPlainDest .ba
  | .dest3B m => m.withPlainDest .b
  | .dest4DoubleRight isCycle m => m.withShiftDest .q isCycle
  | .dest5SingleRight isCycle m => m.withShiftDest .none isCycle
  | .dest6DoubleLeft isCycle m => m.withShiftDest .ba isCycle
  | .dest7SingleLeft isCycle m => m.withShiftDest .b isCycle
  | .ep m => m.withEp true
  | .cin1 m => m.withCin true
  | .cin0 m => m.withCin false
  | .suWriteAQ m => m.withSu .aq
  | .suWriteAB m => m.withSu .ab
  | .suWrite0Q m => m.withSu .zq
  | .suWrite0B m => m.withSu .zb
  | .suWrite0A m => m.withSu .za
  | .suReadDA m => m.withSu .da
  | .suReadDQ m => m.withSu .dq
  | .suReadD0 m => m.withSu .dz
  | .memCycle1 m => m.withMem
  | .memCycle2 m => m.withMem
  | .memCycle3 m => m.withMem
  | .xLink0 m => m.withX (.link 0)
  | .xLink1 m => m.withX (.link 1)
  | .xLink2 m => m.withX (.link 2)
  | .xLink3 m => m.withX (.link 3)
  | .xLink4 m => m.withX (.link 4)
  | .xLink5 m => m.withX (.link 5)
  | .xLink6 m => m.withX (.link 6)
  | .xLink7 m => m.withX (.link 7)
  | .xNoop m => m.withX .noop
  | .xRHLoad m => m.withX .rhLoad
  | .xShift m => m.withX .shift
  | .xCycle m => m.withX .cycle
  | .xCinPc16 m => m.withX .cinPc16
  | .xReserved m => m.withX .reserved
  | .xPop m => m.withX .pop
  | .xPush m => m.withX .push
  | .yExitKernel m => m.withY (.norm .exitKernel)
  | .yEnterKernel m => m.withY (.norm .enterKernel)
  | .yClrIntErr m => m.withY (.norm .clrIntErr)
  | .yIBDisp m => m.withY (.norm .ibDisp)
  | .yMesaIntRq m => m.withY (.norm .mesaIntRq)
  | .yStackPLoad m => m.withY (.norm .stackPLoad)
  | .yIBLoad m => m.withY (.norm .ibLoad)
  | .yReserved m => m.withY (.norm .reserved)
  | .yNoop m => m.withY (.norm .noop)
  | .yMap m => m.withY (.norm .map)
  | .yRefresh m => m.withY (.norm .refresh)
  | .yPush m => m.withY (.norm .push)
  | .yClrDPRq m => m.withY (.norm .clrDPRq)
  | .yClrIOPRq m => m.withY (.norm .clrIOPRq)
  | .yClrKFlags m => m.withY (.norm .clrKFlags)
  | .yPop m => m.withY (.norm .pop)
  | .yNegBr m => m.withY (.branch .negBr)
  | .yZeroBr m => m.withY (.branch .zeroBr)
  | .yNZeroBr m => m.withY (.branch .nZeroBr)
  | .yMesaIntBr m => m.withY (.branch .mesaIntBr)
  | .yPgCarryBr m => m.withY (.branch .pgCarryBr)
  | .yCarryBr m => m.withY (.branch .carryBr)
  | .yXRefBr m => m.withY (.branch .xRefBr)
  | .yNibCarryBr m => m.withY (.branch .nibCarryBr)
  | .yXDisp m => m.withY (.branch .xDisp)
  | .yYDisp m => m.withY (.branch .yDisp)
  | .yXC2npcDisp m => m.withY (.branch .xc2npcDisp)
  | .yYIODisp m => m.withY (.branch .yIODisp)
  | .yXwdDisp m => m.withY (.branch .xwdDisp)
  | .yXHDisp m => m.withY (.branch .xhDisp)
  | .yXLDisp m => m.withY (.branch .xlDisp)
  | .yPgCrOvDisp m => m.withY (.branch .pgCrOvDisp)
  | .yIOPOData m => m.withY (.out 0)
  | .yIOPCtl m => m.withY (.out 1)
  | .yKOData m => m.withY (.out 2)
  | .yKCtl m => m.withY (.out 3)
  | .yEOData m => m.withY (.out 4)
  | .yEICtl m => m.withY (.out 5)
  | .yDCtlFifo m => m.withY (.out 6)
  | .yDCtl m => m.withY (.out 7)
  | .yDBorder m => m.withY (.out 8)
  | .yPCtl m => m.withY (.out 9)
  | .yMCtl m => m.withY (.out 10)
  | .yOut11 m => m.withY (.out 11)
  | .yEOCtl m => m.withY (.out 12)
  | .yKCmd m => m.withY (.out 13)
  | .yOut14 m => m.withY (.out 14)
  | .yPOData m => m.withY (.out 15)
  | .byteLit imm m => m.withByte imm
  | .zRefresh m => m.withZ (.norm .refresh)
  | .zReserved1 m => m.withZ (.norm .reserved1)
  | .zReserved2 m => m.withZ (.norm .reserved2)
  | .zCinPc16 m => m.withZ (.norm .cinPc16)
  | .zReserved4 m => m.withZ (.norm .reserved4)
  | .zPop m => m.withZ (.norm .pop)
  | .zPush m => m.withZ (.norm .push)
  | .zAlwaysIBDisp m => m.withZ (.norm .alwaysIBDisp)
  | .zNoop m => m.withZ (.norm .noop)
  | .zReserved9 m => m.withZ (.norm .reserved9)
  | .zReservedA m => m.withZ (.norm .reservedA)
  | .zReservedB m => m.withZ (.norm .reservedB)
  | .zLRot0 m => m.withZ (.norm .lrot0)
  | .zLRot12 m => m.withZ (.norm .lrot12)
  | .zLRot8 m => m.withZ (.norm .lrot8)
  | .zLRot4 m => m.withZ (.norm .lrot4)
  | .nibLit imm m => m.withZ (.nibble imm)
  | .uaddr lo m => m.withZ (.uaddr lo)
  | .zEIData m => m.withZ (.input .eiData)
  | .zEStatus m => m.withZ (.input .eStatus)
  | .zKIData m => m.withZ (.input .kiData)
  | .zKStatus m => m.withZ (.input .kStatus)
  | .zKStrobe m => m.withZ (.input .kStrobe)
  | .zMStatus m => m.withZ (.input .mStatus)
  | .zKTest m => m.withZ (.input .kTest)
  | .zEStrobe m => m.withZ (.input .eStrobe)
  | .zIOPIData m => m.withZ (.input .iopIData)
  | .zIOPStatus m => m.withZ (.input .iopStatus)
  | .zErrIBStk m => m.withZ (.input .errIBStk)
  | .zRH m => m.withZ (.input .rh)
  | .zIbNA m => m.withZ (.input .ibNA)
  | .zIb m => m.withZ (.input .ib)
  | .zIbLow m => m.withZ (.input .ibLow)
  | .zIbHigh m => m.withZ (.input .ibHigh)
  | .gotoInia inia m => m.withInia inia

/-- The word of an instruction. -/
def encode (i : Instr) : MWord := encodeMicro i.micro

/-! ### Decoder predicates (R121 to R139), each a pure function of the word -/

/-- R121 -/
def Micro.isShift (m : Micro) : Bool := decide (m.x = .shift)

/-- R122 -/
def Micro.isCycle (m : Micro) : Bool := decide (m.x = .cycle)

/-- The eight write-back codes of R123. -/
inductive Dest where
  /-- code 0 -/
  | q
  /-- code 1 -/
  | none
  /-- code 2 -/
  | ba
  /-- code 3 -/
  | b
  /-- code 4 -/
  | doubleRight
  /-- code 5 -/
  | singleRight
  /-- code 6 -/
  | doubleLeft
  /-- code 7 -/
  | singleLeft
deriving DecidableEq, Repr, Inhabited

/-- R123: `dest = [isShift or isCycle, aD]` -/
def Micro.dest (m : Micro) : Dest :=
  if m.isShift || m.isCycle then
    match m.aD with
    | .q => .doubleRight
    | .none => .singleRight
    | .ba => .doubleLeft
    | .b => .singleLeft
  else
    match m.aD with
    | .q => .q
    | .none => .none
    | .ba => .ba
    | .b => .b

/-- The Z plane executes the Norm function `op` (R124: `zNorm`, so never in byte mode). -/
def Micro.zNormIs (m : Micro) (op : ZNorm) : Bool := decide (m.planes.z? = some (.norm op))

/-- The Z plane codes the input `op`, outside byte mode (R193). -/
def Micro.zInputIs (m : Micro) (op : ZInput) : Bool := decide (m.planes.z? = some (.input op))

/-- The Y plane executes the control operation `op` (R106). -/
def Micro.yNormIs (m : Micro) (op : YNorm) : Bool := decide (m.planes.y? = some (.norm op))

/-- R124 -/
def Micro.pushX (m : Micro) : Bool := decide (m.x = .push)

/-- R124 -/
def Micro.pushY (m : Micro) : Bool := m.yNormIs .push

/-- R124 -/
def Micro.pushZ (m : Micro) : Bool := m.zNormIs .push

/-- R124 -/
def Micro.popX (m : Micro) : Bool := decide (m.x = .pop)

/-- R124 -/
def Micro.popY (m : Micro) : Bool := m.yNormIs .pop

/-- R124 -/
def Micro.popZ (m : Micro) : Bool := m.zNormIs .pop

/-- The number of push encodings, 0 to 3 (R124). -/
def Micro.pushCount (m : Micro) : Nat := m.pushX.toNat + m.pushY.toNat + m.pushZ.toNat

/-- The number of pop encodings, 0 to 3 (R124). -/
def Micro.popCount (m : Micro) : Nat := m.popX.toNat + m.popY.toNat + m.popZ.toNat

/-- R124 -/
def Micro.pushes (m : Micro) : Bool := decide (0 < m.pushCount)

/-- R124 -/
def Micro.pops (m : Micro) : Bool := decide (0 < m.popCount)

/-- R125 -/
def Micro.testOverflow (m : Micro) : Bool := m.pushes

/-- R125 -/
def Micro.testUnderflow (m : Micro) : Bool := decide (m.popCount = 1)

/-- R125 -/
def Micro.testDoubleUnderflow (m : Micro) : Bool := decide (2 ≤ m.popCount)

/-- R126 -/
def Micro.linkIndex (m : Micro) : Option (BitVec 3) :=
  match m.x with
  | .link i => some i
  | _ => none

/-- R127 -/
def Micro.ibLoad (m : Micro) : Bool := m.yNormIs .ibLoad

/-- The 8-bit constant of R104 and R128, none when no literal is coded; byte mode takes precedence. -/
def Micro.const? (m : Micro) : Option (BitVec 8) :=
  match m.planes with
  | .byte imm _ => some imm
  | .yz _ (.nibble imm) => some (0#4 ++ imm)
  | .yz _ _ => none

/-- The source pair takes D (R65: `aS` 5, 6 or 7). -/
def SrcPair.usesD : SrcPair → Bool
  | .da => true
  | .dq => true
  | .dz => true
  | _ => false

/-- The branch reads the X bus (R129: codes 6, 8, 0xA, 0xC, 0xD, 0xE). -/
def YBranch.readsX : YBranch → Bool
  | .xRefBr => true
  | .xDisp => true
  | .xc2npcDisp => true
  | .xwdDisp => true
  | .xhDisp => true
  | .xlDisp => true
  | _ => false

/-- R129 -/
def Micro.needsXBus (m : Micro) : Bool :=
  m.aS.usesD || decide (m.x = .rhLoad) || m.ibLoad
    || (match m.planes.y? with
        | some (.branch op) => op.readsX
        | _ => false)

/-- R130 -/
def Micro.suRead (m : Micro) : Bool := m.enSU && m.aS.usesD

/-- R130 -/
def Micro.suWrite (m : Micro) : Bool := m.enSU && !m.aS.usesD

/-- The low nibble of a direct SU address, none outside U-address mode (R131). -/
def Micro.suDirect? (m : Micro) : Option (BitVec 4) :=
  match m.planes.z? with
  | some (.uaddr lo) => some lo
  | _ => none

/-- R132 -/
def Micro.addrLoadRequest (m : Micro) : Bool := m.mem

/-- R133 -/
def Micro.mapLoad (m : Micro) : Bool := m.yNormIs .map

/-- R135 -/
def Micro.alwaysDisp (m : Micro) : Bool := m.zNormIs .alwaysIBDisp

/-- R134 -/
def Micro.ibDispRequest (m : Micro) : Bool := m.yNormIs .ibDisp || m.alwaysDisp

/-- R136 -/
def Micro.cinToggleX (m : Micro) : Bool := decide (m.x = .cinPc16)

/-- R136 -/
def Micro.cinToggleZ (m : Micro) : Bool := m.zNormIs .cinPc16

/-- R136: the Z-plane form takes effect only if the raw carry bit is 1. -/
def Micro.cinToggle (m : Micro) : Bool := m.cinToggleX || (m.cinToggleZ && m.cin)

/-- The rotate bypass coded, as the amount of the left rotate (R137). -/
def Micro.rotAmount (m : Micro) : Option Nat :=
  match m.planes.z? with
  | some (.norm .lrot0) => some 0
  | some (.norm .lrot12) => some 12
  | some (.norm .lrot8) => some 8
  | some (.norm .lrot4) => some 4
  | _ => none

/-- The Z-plane input coded, none in any other mode (R193). -/
def Micro.input? (m : Micro) : Option ZInput :=
  match m.planes.z? with
  | some (.input op) => some op
  | _ => none

/-- The input drives the X bus: every one but the two strobes (R193). -/
def ZInput.drives : ZInput → Bool
  | .kStrobe => false
  | .eStrobe => false
  | _ => true

/-- The input is one of the four instruction-buffer peek forms (R209 to R212). -/
def ZInput.peeks : ZInput → Bool
  | .ibNA => true
  | .ib => true
  | .ibLow => true
  | .ibHigh => true
  | _ => false

/-- The peek form advances the buffer (R210, R211, R315). -/
def ZInput.advances : ZInput → Bool
  | .ib => true
  | .ibLow => true
  | _ => false

/-- The word codes a peek form (R209). -/
def Micro.peeks (m : Micro) : Bool :=
  match m.input? with
  | some op => op.peeks
  | none => false

/-- The word codes a peek form that advances (R315). -/
def Micro.peekAdvances (m : Micro) : Bool :=
  match m.input? with
  | some op => op.advances
  | none => false

/-- The number of X-bus sources coded (R138); `cycle3` says whether the engine is in cycle 3, where `mem` is one. -/
def Micro.xDriverCount (m : Micro) (cycle3 : Bool) : Nat :=
  m.const?.isSome.toNat
    + (match m.input? with
       | some op => op.drives.toNat
       | none => 0)
    + m.rotAmount.isSome.toNat + m.suRead.toNat + (m.mem && cycle3).toNat

/-- R139 -/
def Micro.exitKernel (m : Micro) : Bool := m.yNormIs .exitKernel

/-- R139 -/
def Micro.enterKernel (m : Micro) : Bool := m.yNormIs .enterKernel

/-- R139 -/
def Micro.clrIntErr (m : Micro) : Bool := m.yNormIs .clrIntErr

/-- R139 -/
def Micro.loadStackP (m : Micro) : Bool := m.yNormIs .stackPLoad

/-- R139: the branch or dispatch operation coded -/
def Micro.branch? (m : Micro) : Option YBranch :=
  match m.planes.y? with
  | some (.branch op) => some op
  | _ => none

/-- R139: the device port written -/
def Micro.devOut? (m : Micro) : Option (BitVec 4) :=
  match m.planes.y? with
  | some (.out port) => some port
  | _ => none

/-! ### The opcode table -/

/-- A slice of the word that a row of the table fixes: `len` bits from bit `lo` up hold `value`. -/
structure FixedField where
  /-- lowest bit -/
  lo : Nat
  /-- number of bits -/
  len : Nat
  /-- the value the slice holds -/
  value : Nat
deriving DecidableEq, Repr

/-- The word holds the value in the slice. -/
def FixedField.holds (f : FixedField) (w : MWord) : Bool := decide ((w.extractLsb' f.lo f.len).toNat = f.value)

/-- A row's pattern in spec/opcode_table.json: the slices of its mask and match, and those of its exclusion (the row does not
apply to a word that matches the exclusion). -/
structure RowPattern where
  /-- the slices of mask and match -/
  fixed : List FixedField
  /-- the exclusion, none for most rows -/
  excluded : Option FixedField
deriving DecidableEq, Repr

/-- The word selects the row. -/
def RowPattern.selects (p : RowPattern) (w : MWord) : Bool :=
  p.fixed.all (fun f => f.holds w) && (match p.excluded with
    | some f => !f.holds w
    | none => true)

/-- The position of an instruction's row in spec/opcode_table.json. -/
def Instr.rowIx : Instr → Nat
  | .srcAQ _ => 0
  | .srcAB _ => 1
  | .src0Q _ => 2
  | .src0B _ => 3
  | .src0A _ => 4
  | .srcDA _ => 5
  | .srcDQ _ => 6
  | .srcD0 _ => 7
  | .fnADD _ => 8
  | .fnSUBR _ => 9
  | .fnSUBS _ => 10
  | .fnOR _ => 11
  | .fnAND _ => 12
  | .fnNOTRS _ => 13
  | .fnXOR _ => 14
  | .fnXNOR _ => 15
  | .dest0Q _ => 16
  | .dest1NONE _ => 17
  | .dest2BA _ => 18
  | .dest3B _ => 19
  | .dest4DoubleRight _ _ => 20
  | .dest5SingleRight _ _ => 21
  | .dest6DoubleLeft _ _ => 22
  | .dest7SingleLeft _ _ => 23
  | .ep _ => 24
  | .cin1 _ => 25
  | .cin0 _ => 26
  | .suWriteAQ _ => 27
  | .suWriteAB _ => 28
  | .suWrite0Q _ => 29
  | .suWrite0B _ => 30
  | .suWrite0A _ => 31
  | .suReadDA _ => 32
  | .suReadDQ _ => 33
  | .suReadD0 _ => 34
  | .memCycle1 _ => 35
  | .memCycle2 _ => 36
  | .memCycle3 _ => 37
  | .xLink0 _ => 38
  | .xLink1 _ => 39
  | .xLink2 _ => 40
  | .xLink3 _ => 41
  | .xLink4 _ => 42
  | .xLink5 _ => 43
  | .xLink6 _ => 44
  | .xLink7 _ => 45
  | .xNoop _ => 46
  | .xRHLoad _ => 47
  | .xShift _ => 48
  | .xCycle _ => 49
  | .xCinPc16 _ => 50
  | .xReserved _ => 51
  | .xPop _ => 52
  | .xPush _ => 53
  | .yExitKernel _ => 54
  | .yEnterKernel _ => 55
  | .yClrIntErr _ => 56
  | .yIBDisp _ => 57
  | .yMesaIntRq _ => 58
  | .yStackPLoad _ => 59
  | .yIBLoad _ => 60
  | .yReserved _ => 61
  | .yNoop _ => 62
  | .yMap _ => 63
  | .yRefresh _ => 64
  | .yPush _ => 65
  | .yClrDPRq _ => 66
  | .yClrIOPRq _ => 67
  | .yClrKFlags _ => 68
  | .yPop _ => 69
  | .yNegBr _ => 70
  | .yZeroBr _ => 71
  | .yNZeroBr _ => 72
  | .yMesaIntBr _ => 73
  | .yPgCarryBr _ => 74
  | .yCarryBr _ => 75
  | .yXRefBr _ => 76
  | .yNibCarryBr _ => 77
  | .yXDisp _ => 78
  | .yYDisp _ => 79
  | .yXC2npcDisp _ => 80
  | .yYIODisp _ => 81
  | .yXwdDisp _ => 82
  | .yXHDisp _ => 83
  | .yXLDisp _ => 84
  | .yPgCrOvDisp _ => 85
  | .yIOPOData _ => 86
  | .yIOPCtl _ => 87
  | .yKOData _ => 88
  | .yKCtl _ => 89
  | .yEOData _ => 90
  | .yEICtl _ => 91
  | .yDCtlFifo _ => 92
  | .yDCtl _ => 93
  | .yDBorder _ => 94
  | .yPCtl _ => 95
  | .yMCtl _ => 96
  | .yOut11 _ => 97
  | .yEOCtl _ => 98
  | .yKCmd _ => 99
  | .yOut14 _ => 100
  | .yPOData _ => 101
  | .byteLit _ _ => 102
  | .zRefresh _ => 103
  | .zReserved1 _ => 104
  | .zReserved2 _ => 105
  | .zCinPc16 _ => 106
  | .zReserved4 _ => 107
  | .zPop _ => 108
  | .zPush _ => 109
  | .zAlwaysIBDisp _ => 110
  | .zNoop _ => 111
  | .zReserved9 _ => 112
  | .zReservedA _ => 113
  | .zReservedB _ => 114
  | .zLRot0 _ => 115
  | .zLRot12 _ => 116
  | .zLRot8 _ => 117
  | .zLRot4 _ => 118
  | .nibLit _ _ => 119
  | .uaddr _ _ => 120
  | .zEIData _ => 121
  | .zEStatus _ => 122
  | .zKIData _ => 123
  | .zKStatus _ => 124
  | .zKStrobe _ => 125
  | .zMStatus _ => 126
  | .zKTest _ => 127
  | .zEStrobe _ => 128
  | .zIOPIData _ => 129
  | .zIOPStatus _ => 130
  | .zErrIBStk _ => 131
  | .zRH _ => 132
  | .zIbNA _ => 133
  | .zIb _ => 134
  | .zIbLow _ => 135
  | .zIbHigh _ => 136
  | .gotoInia _ _ => 137

/-- The patterns of spec/opcode_table.json, row by row. -/
def Instr.pattern : Instr → RowPattern
  | .srcAQ _ => ⟨[⟨37, 3, 0⟩], none⟩
  | .srcAB _ => ⟨[⟨37, 3, 1⟩], none⟩
  | .src0Q _ => ⟨[⟨37, 3, 2⟩], none⟩
  | .src0B _ => ⟨[⟨37, 3, 3⟩], none⟩
  | .src0A _ => ⟨[⟨37, 3, 4⟩], none⟩
  | .srcDA _ => ⟨[⟨37, 3, 5⟩], none⟩
  | .srcDQ _ => ⟨[⟨37, 3, 6⟩], none⟩
  | .srcD0 _ => ⟨[⟨37, 3, 7⟩], none⟩
  | .fnADD _ => ⟨[⟨34, 3, 0⟩], none⟩
  | .fnSUBR _ => ⟨[⟨34, 3, 1⟩], none⟩
  | .fnSUBS _ => ⟨[⟨34, 3, 2⟩], none⟩
  | .fnOR _ => ⟨[⟨34, 3, 3⟩], none⟩
  | .fnAND _ => ⟨[⟨34, 3, 4⟩], none⟩
  | .fnNOTRS _ => ⟨[⟨34, 3, 5⟩], none⟩
  | .fnXOR _ => ⟨[⟨34, 3, 6⟩], none⟩
  | .fnXNOR _ => ⟨[⟨34, 3, 7⟩], none⟩
  | .dest0Q _ => ⟨[⟨32, 2, 0⟩], some ⟨17, 3, 5⟩⟩
  | .dest1NONE _ => ⟨[⟨32, 2, 1⟩], some ⟨17, 3, 5⟩⟩
  | .dest2BA _ => ⟨[⟨32, 2, 2⟩], some ⟨17, 3, 5⟩⟩
  | .dest3B _ => ⟨[⟨32, 2, 3⟩], some ⟨17, 3, 5⟩⟩
  | .dest4DoubleRight _ _ => ⟨[⟨32, 2, 0⟩, ⟨17, 3, 5⟩], none⟩
  | .dest5SingleRight _ _ => ⟨[⟨32, 2, 1⟩, ⟨17, 3, 5⟩], none⟩
  | .dest6DoubleLeft _ _ => ⟨[⟨32, 2, 2⟩, ⟨17, 3, 5⟩], none⟩
  | .dest7SingleLeft _ _ => ⟨[⟨32, 2, 3⟩, ⟨17, 3, 5⟩], none⟩
  | .ep _ => ⟨[⟨31, 1, 1⟩], none⟩
  | .cin1 _ => ⟨[⟨30, 1, 1⟩], none⟩
  | .cin0 _ => ⟨[⟨30, 1, 0⟩], none⟩
  | .suWriteAQ _ => ⟨[⟨29, 1, 1⟩, ⟨37, 3, 0⟩], none⟩
  | .suWriteAB _ => ⟨[⟨29, 1, 1⟩, ⟨37, 3, 1⟩], none⟩
  | .suWrite0Q _ => ⟨[⟨29, 1, 1⟩, ⟨37, 3, 2⟩], none⟩
  | .suWrite0B _ => ⟨[⟨29, 1, 1⟩, ⟨37, 3, 3⟩], none⟩
  | .suWrite0A _ => ⟨[⟨29, 1, 1⟩, ⟨37, 3, 4⟩], none⟩
  | .suReadDA _ => ⟨[⟨29, 1, 1⟩, ⟨37, 3, 5⟩], none⟩
  | .suReadDQ _ => ⟨[⟨29, 1, 1⟩, ⟨37, 3, 6⟩], none⟩
  | .suReadD0 _ => ⟨[⟨29, 1, 1⟩, ⟨37, 3, 7⟩], none⟩
  | .memCycle1 _ => ⟨[⟨28, 1, 1⟩], none⟩
  | .memCycle2 _ => ⟨[⟨28, 1, 1⟩], none⟩
  | .memCycle3 _ => ⟨[⟨28, 1, 1⟩], none⟩
  | .xLink0 _ => ⟨[⟨16, 4, 0⟩], none⟩
  | .xLink1 _ => ⟨[⟨16, 4, 1⟩], none⟩
  | .xLink2 _ => ⟨[⟨16, 4, 2⟩], none⟩
  | .xLink3 _ => ⟨[⟨16, 4, 3⟩], none⟩
  | .xLink4 _ => ⟨[⟨16, 4, 4⟩], none⟩
  | .xLink5 _ => ⟨[⟨16, 4, 5⟩], none⟩
  | .xLink6 _ => ⟨[⟨16, 4, 6⟩], none⟩
  | .xLink7 _ => ⟨[⟨16, 4, 7⟩], none⟩
  | .xNoop _ => ⟨[⟨16, 4, 8⟩], none⟩
  | .xRHLoad _ => ⟨[⟨16, 4, 9⟩], none⟩
  | .xShift _ => ⟨[⟨16, 4, 10⟩], none⟩
  | .xCycle _ => ⟨[⟨16, 4, 11⟩], none⟩
  | .xCinPc16 _ => ⟨[⟨16, 4, 12⟩], none⟩
  | .xReserved _ => ⟨[⟨16, 4, 13⟩], none⟩
  | .xPop _ => ⟨[⟨16, 4, 14⟩], none⟩
  | .xPush _ => ⟨[⟨16, 4, 15⟩], none⟩
  | .yExitKernel _ => ⟨[⟨20, 4, 0⟩, ⟨26, 2, 0⟩], none⟩
  | .yEnterKernel _ => ⟨[⟨20, 4, 1⟩, ⟨26, 2, 0⟩], none⟩
  | .yClrIntErr _ => ⟨[⟨20, 4, 2⟩, ⟨26, 2, 0⟩], none⟩
  | .yIBDisp _ => ⟨[⟨20, 4, 3⟩, ⟨26, 2, 0⟩], none⟩
  | .yMesaIntRq _ => ⟨[⟨20, 4, 4⟩, ⟨26, 2, 0⟩], none⟩
  | .yStackPLoad _ => ⟨[⟨20, 4, 5⟩, ⟨26, 2, 0⟩], none⟩
  | .yIBLoad _ => ⟨[⟨20, 4, 6⟩, ⟨26, 2, 0⟩], none⟩
  | .yReserved _ => ⟨[⟨20, 4, 7⟩, ⟨26, 2, 0⟩], none⟩
  | .yNoop _ => ⟨[⟨20, 4, 8⟩, ⟨26, 2, 0⟩], none⟩
  | .yMap _ => ⟨[⟨20, 4, 9⟩, ⟨26, 2, 0⟩], none⟩
  | .yRefresh _ => ⟨[⟨20, 4, 10⟩, ⟨26, 2, 0⟩], none⟩
  | .yPush _ => ⟨[⟨20, 4, 11⟩, ⟨26, 2, 0⟩], none⟩
  | .yClrDPRq _ => ⟨[⟨20, 4, 12⟩, ⟨26, 2, 0⟩], none⟩
  | .yClrIOPRq _ => ⟨[⟨20, 4, 13⟩, ⟨26, 2, 0⟩], none⟩
  | .yClrKFlags _ => ⟨[⟨20, 4, 14⟩, ⟨26, 2, 0⟩], none⟩
  | .yPop _ => ⟨[⟨20, 4, 15⟩, ⟨26, 2, 0⟩], none⟩
  | .yNegBr _ => ⟨[⟨20, 4, 0⟩, ⟨26, 2, 1⟩], none⟩
  | .yZeroBr _ => ⟨[⟨20, 4, 1⟩, ⟨26, 2, 1⟩], none⟩
  | .yNZeroBr _ => ⟨[⟨20, 4, 2⟩, ⟨26, 2, 1⟩], none⟩
  | .yMesaIntBr _ => ⟨[⟨20, 4, 3⟩, ⟨26, 2, 1⟩], none⟩
  | .yPgCarryBr _ => ⟨[⟨20, 4, 4⟩, ⟨26, 2, 1⟩], none⟩
  | .yCarryBr _ => ⟨[⟨20, 4, 5⟩, ⟨26, 2, 1⟩], none⟩
  | .yXRefBr _ => ⟨[⟨20, 4, 6⟩, ⟨26, 2, 1⟩], none⟩
  | .yNibCarryBr _ => ⟨[⟨20, 4, 7⟩, ⟨26, 2, 1⟩], none⟩
  | .yXDisp _ => ⟨[⟨20, 4, 8⟩, ⟨26, 2, 1⟩], none⟩
  | .yYDisp _ => ⟨[⟨20, 4, 9⟩, ⟨26, 2, 1⟩], none⟩
  | .yXC2npcDisp _ => ⟨[⟨20, 4, 10⟩, ⟨26, 2, 1⟩], none⟩
  | .yYIODisp _ => ⟨[⟨20, 4, 11⟩, ⟨26, 2, 1⟩], none⟩
  | .yXwdDisp _ => ⟨[⟨20, 4, 12⟩, ⟨26, 2, 1⟩], none⟩
  | .yXHDisp _ => ⟨[⟨20, 4, 13⟩, ⟨26, 2, 1⟩], none⟩
  | .yXLDisp _ => ⟨[⟨20, 4, 14⟩, ⟨26, 2, 1⟩], none⟩
  | .yPgCrOvDisp _ => ⟨[⟨20, 4, 15⟩, ⟨26, 2, 1⟩], none⟩
  | .yIOPOData _ => ⟨[⟨20, 4, 0⟩, ⟨26, 2, 2⟩], none⟩
  | .yIOPCtl _ => ⟨[⟨20, 4, 1⟩, ⟨26, 2, 2⟩], none⟩
  | .yKOData _ => ⟨[⟨20, 4, 2⟩, ⟨26, 2, 2⟩], none⟩
  | .yKCtl _ => ⟨[⟨20, 4, 3⟩, ⟨26, 2, 2⟩], none⟩
  | .yEOData _ => ⟨[⟨20, 4, 4⟩, ⟨26, 2, 2⟩], none⟩
  | .yEICtl _ => ⟨[⟨20, 4, 5⟩, ⟨26, 2, 2⟩], none⟩
  | .yDCtlFifo _ => ⟨[⟨20, 4, 6⟩, ⟨26, 2, 2⟩], none⟩
  | .yDCtl _ => ⟨[⟨20, 4, 7⟩, ⟨26, 2, 2⟩], none⟩
  | .yDBorder _ => ⟨[⟨20, 4, 8⟩, ⟨26, 2, 2⟩], none⟩
  | .yPCtl _ => ⟨[⟨20, 4, 9⟩, ⟨26, 2, 2⟩], none⟩
  | .yMCtl _ => ⟨[⟨20, 4, 10⟩, ⟨26, 2, 2⟩], none⟩
  | .yOut11 _ => ⟨[⟨20, 4, 11⟩, ⟨26, 2, 2⟩], none⟩
  | .yEOCtl _ => ⟨[⟨20, 4, 12⟩, ⟨26, 2, 2⟩], none⟩
  | .yKCmd _ => ⟨[⟨20, 4, 13⟩, ⟨26, 2, 2⟩], none⟩
  | .yOut14 _ => ⟨[⟨20, 4, 14⟩, ⟨26, 2, 2⟩], none⟩
  | .yPOData _ => ⟨[⟨20, 4, 15⟩, ⟨26, 2, 2⟩], none⟩
  | .byteLit _ _ => ⟨[⟨26, 2, 3⟩], none⟩
  | .zRefresh _ => ⟨[⟨12, 4, 0⟩, ⟨24, 2, 0⟩], some ⟨26, 2, 3⟩⟩
  | .zReserved1 _ => ⟨[⟨12, 4, 1⟩, ⟨24, 2, 0⟩], some ⟨26, 2, 3⟩⟩
  | .zReserved2 _ => ⟨[⟨12, 4, 2⟩, ⟨24, 2, 0⟩], some ⟨26, 2, 3⟩⟩
  | .zCinPc16 _ => ⟨[⟨12, 4, 3⟩, ⟨24, 2, 0⟩], some ⟨26, 2, 3⟩⟩
  | .zReserved4 _ => ⟨[⟨12, 4, 4⟩, ⟨24, 2, 0⟩], some ⟨26, 2, 3⟩⟩
  | .zPop _ => ⟨[⟨12, 4, 5⟩, ⟨24, 2, 0⟩], some ⟨26, 2, 3⟩⟩
  | .zPush _ => ⟨[⟨12, 4, 6⟩, ⟨24, 2, 0⟩], some ⟨26, 2, 3⟩⟩
  | .zAlwaysIBDisp _ => ⟨[⟨12, 4, 7⟩, ⟨24, 2, 0⟩], some ⟨26, 2, 3⟩⟩
  | .zNoop _ => ⟨[⟨12, 4, 8⟩, ⟨24, 2, 0⟩], some ⟨26, 2, 3⟩⟩
  | .zReserved9 _ => ⟨[⟨12, 4, 9⟩, ⟨24, 2, 0⟩], some ⟨26, 2, 3⟩⟩
  | .zReservedA _ => ⟨[⟨12, 4, 10⟩, ⟨24, 2, 0⟩], some ⟨26, 2, 3⟩⟩
  | .zReservedB _ => ⟨[⟨12, 4, 11⟩, ⟨24, 2, 0⟩], some ⟨26, 2, 3⟩⟩
  | .zLRot0 _ => ⟨[⟨12, 4, 12⟩, ⟨24, 2, 0⟩], some ⟨26, 2, 3⟩⟩
  | .zLRot12 _ => ⟨[⟨12, 4, 13⟩, ⟨24, 2, 0⟩], some ⟨26, 2, 3⟩⟩
  | .zLRot8 _ => ⟨[⟨12, 4, 14⟩, ⟨24, 2, 0⟩], some ⟨26, 2, 3⟩⟩
  | .zLRot4 _ => ⟨[⟨12, 4, 15⟩, ⟨24, 2, 0⟩], some ⟨26, 2, 3⟩⟩
  | .nibLit _ _ => ⟨[⟨24, 2, 1⟩], some ⟨26, 2, 3⟩⟩
  | .uaddr _ _ => ⟨[⟨24, 2, 2⟩], some ⟨26, 2, 3⟩⟩
  | .zEIData _ => ⟨[⟨12, 4, 0⟩, ⟨24, 2, 3⟩], some ⟨26, 2, 3⟩⟩
  | .zEStatus _ => ⟨[⟨12, 4, 1⟩, ⟨24, 2, 3⟩], some ⟨26, 2, 3⟩⟩
  | .zKIData _ => ⟨[⟨12, 4, 2⟩, ⟨24, 2, 3⟩], some ⟨26, 2, 3⟩⟩
  | .zKStatus _ => ⟨[⟨12, 4, 3⟩, ⟨24, 2, 3⟩], some ⟨26, 2, 3⟩⟩
  | .zKStrobe _ => ⟨[⟨12, 4, 4⟩, ⟨24, 2, 3⟩], some ⟨26, 2, 3⟩⟩
  | .zMStatus _ => ⟨[⟨12, 4, 5⟩, ⟨24, 2, 3⟩], some ⟨26, 2, 3⟩⟩
  | .zKTest _ => ⟨[⟨12, 4, 6⟩, ⟨24, 2, 3⟩], some ⟨26, 2, 3⟩⟩
  | .zEStrobe _ => ⟨[⟨12, 4, 7⟩, ⟨24, 2, 3⟩], some ⟨26, 2, 3⟩⟩
  | .zIOPIData _ => ⟨[⟨12, 4, 8⟩, ⟨24, 2, 3⟩], some ⟨26, 2, 3⟩⟩
  | .zIOPStatus _ => ⟨[⟨12, 4, 9⟩, ⟨24, 2, 3⟩], some ⟨26, 2, 3⟩⟩
  | .zErrIBStk _ => ⟨[⟨12, 4, 10⟩, ⟨24, 2, 3⟩], some ⟨26, 2, 3⟩⟩
  | .zRH _ => ⟨[⟨12, 4, 11⟩, ⟨24, 2, 3⟩], some ⟨26, 2, 3⟩⟩
  | .zIbNA _ => ⟨[⟨12, 4, 12⟩, ⟨24, 2, 3⟩], some ⟨26, 2, 3⟩⟩
  | .zIb _ => ⟨[⟨12, 4, 13⟩, ⟨24, 2, 3⟩], some ⟨26, 2, 3⟩⟩
  | .zIbLow _ => ⟨[⟨12, 4, 14⟩, ⟨24, 2, 3⟩], some ⟨26, 2, 3⟩⟩
  | .zIbHigh _ => ⟨[⟨12, 4, 15⟩, ⟨24, 2, 3⟩], some ⟨26, 2, 3⟩⟩
  | .gotoInia _ _ => ⟨[], none⟩

end Sys2Proof
end

