-- ==== Sys2Proof/Config.lean ====
section
/-! DEFINITION. What the spec leaves to an implementation: the named open parameters of 00_scope.md R8 and 92_eei_decisions.md
section 1. The finite ones are plain data in `Params`, which State carries unchanged; the networks the document leaves without
a formula are uninterpreted constants (notes/assumptions/5.md to 8.md). -/

namespace Sys2Proof

/-- The six ALU flag outputs (10_state.md R22). -/
structure Flags where
  /-- F is 0x0000 (R159) -/
  zero : Bool
  /-- bit 15 of F (R159) -/
  negative : Bool
  /-- carry into bit 4 (R160) -/
  nibbleCarry : Bool
  /-- carry into bit 8 (R160) -/
  pageCarry : Bool
  /-- carry out of bit 15 (R160) -/
  carryOut : Bool
  /-- two's-complement overflow (R161) -/
  overflow : Bool
deriving DecidableEq, Repr, Inhabited

/-- The four carry-type outputs of the ALU network (R160 to R162). -/
structure Carries where
  /-- NibbleCarry -/
  nibble : Bool
  /-- PageCarry -/
  page : Bool
  /-- CarryOut -/
  carry : Bool
  /-- Overflow -/
  overflow : Bool
deriving DecidableEq, Repr, Inhabited

/-- The bits entering the open ends of a shift: into `R[rB]` and into Q (R179). -/
structure ShiftEnds where
  /-- the bit entering `R[rB]` -/
  ramIn : Bool
  /-- the bit entering Q, unused by the single-word codes -/
  qIn : Bool
deriving DecidableEq, Repr, Inhabited

/-- CarryOut and Overflow of address-load mode (R165). -/
structure HighCarries where
  /-- CarryOut -/
  carry : Bool
  /-- Overflow -/
  overflow : Bool
deriving DecidableEq, Repr, Inhabited

namespace Config

/-- LOGIC_NET (R162, U1): the four carry-type outputs of the logical functions, a function of the function code, R, S and the
carry-in and of nothing else. UNINTERPRETED: the document gives no formula (notes/assumptions/6.md). -/
opaque logicNet : AluFn → Word → Word → Bool → Carries

/-- ADDRLOAD_HI (R165, U2): CarryOut and Overflow in address-load mode, a function of the forced function (true for ~R^S, false
for R|S), the top byte of `R[rB]` and the carry-in. UNINTERPRETED: the document gives no formula
(notes/assumptions/7.md). -/
opaque addrLoadHi : Bool → Byte → Bool → HighCarries

/-- SHIFT_ENDS (R179, U3) when it is not the spec's default table: any function of the write-back code, the cycle bit, F, Q, the
carry-in and the flags. UNINTERPRETED (notes/assumptions/8.md). -/
opaque shiftEnds : Dest → Bool → Word → Word → Bool → Flags → ShiftEnds

end Config

/-- Which instance of LOGIC_NET and ADDRLOAD_HI the machine has. -/
inductive NetChoice where
  /-- the uninterpreted network, the only choice the document backs -/
  | uninterpreted
  /-- the instance suggested and marked unverified in 93_implementation_defined.md U1, U2 -/
  | suggested
deriving DecidableEq, Repr, Inhabited

/-- Which instance of SHIFT_ENDS the machine has. -/
inductive ShiftChoice where
  /-- the spec's default table (R179) -/
  | specTable
  /-- an uninterpreted function of everything R179 lets it depend on -/
  | uninterpreted
deriving DecidableEq, Repr, Inhabited

/-- What a click phase serves (R383): the document fixes these four kinds and not their places. -/
inductive ClickSlot where
  /-- the Ethernet task -/
  | ethernet
  /-- the Disk task -/
  | disk
  /-- the IOP task -/
  | iop
  /-- Display if the display is enabled, else Refresh -/
  | displayOrRefresh
deriving DecidableEq, Repr, Inhabited

/-- A trap delay: 1 or 2 Emulator clicks (R405). -/
inductive TrapDelay where
  /-- 1 -/
  | one
  /-- 2 -/
  | two
deriving DecidableEq, Repr, Inhabited

/-- The four error causes, lowest code first (60_exceptions.md R400). -/
inductive Cause where
  /-- code 0, never raised (R402) -/
  | controlStoreParity
  /-- code 1 -/
  | memoryFault
  /-- code 2 -/
  | stackOverUnderflow
  /-- code 3 -/
  | ibEmpty
deriving DecidableEq, Repr, Inhabited

/-- The cycle index 1..3 (10_state.md R35). -/
inductive Cycle where
  /-- cycle 1 -/
  | c1
  /-- cycle 2 -/
  | c2
  /-- cycle 3 -/
  | c3
deriving DecidableEq, Repr, Inhabited

/-- The delays of one cause, by the cycle of the raise (R405). -/
structure DelayRow where
  /-- raised in cycle 1 -/
  inC1 : TrapDelay
  /-- raised in cycle 2 -/
  inC2 : TrapDelay
  /-- raised in cycle 3 -/
  inC3 : TrapDelay
deriving DecidableEq, Repr, Inhabited

/-- The named open parameters (R8). -/
structure Params where
  /-- XBUS_IDLE (R194) -/
  xbusIdle : Word
  /-- ERR_NONE_READ (R207) -/
  errNoneRead : BitVec 2
  /-- REFILL_KEEP (R318) -/
  refillKeep : MAddr
  /-- REFILL_TARGET(e = 0, m = 0): buffer not empty, no interrupt (R318) -/
  refillNotEmpty : MAddr
  /-- REFILL_TARGET(0, 1) -/
  refillNotEmptyInt : MAddr
  /-- REFILL_TARGET(1, 0) -/
  refillEmpty : MAddr
  /-- REFILL_TARGET(1, 1) -/
  refillEmptyInt : MAddr
  /-- CLICK_TASK by click index (R383) -/
  clickMap : Vector ClickSlot 5
  /-- TRAP_DELAY of ControlStoreParity (R405) -/
  delayParity : DelayRow
  /-- TRAP_DELAY of MemoryFault -/
  delayMemory : DelayRow
  /-- TRAP_DELAY of StackOverUnderflow -/
  delayStack : DelayRow
  /-- TRAP_DELAY of IBEmpty -/
  delayIb : DelayRow
  /-- SHIFT_ENDS (R179) -/
  shiftEnds : ShiftChoice
  /-- LOGIC_NET (R162) -/
  logicNet : NetChoice
  /-- ADDRLOAD_HI (R165) -/
  addrLoadHi : NetChoice
deriving DecidableEq, Repr, Inhabited

/-- The default delays of every cause: 2 in cycle 3, else 1 (R405). -/
def DelayRow.specDefault : DelayRow := { inC1 := .one, inC2 := .one, inC3 := .two }

/-- The spec's defaults (92_eei_decisions.md section 1); LOGIC_NET and ADDRLOAD_HI have none and stay uninterpreted. -/
def Params.specDefault : Params :=
  { xbusIdle := 0x0000, errNoneRead := 3, refillKeep := 0xC00,
    refillNotEmpty := 0x200, refillNotEmptyInt := 0x300, refillEmpty := 0x000, refillEmptyInt := 0x100,
    clickMap := #v[.ethernet, .disk, .ethernet, .iop, .displayOrRefresh],
    delayParity := DelayRow.specDefault, delayMemory := DelayRow.specDefault,
    delayStack := DelayRow.specDefault, delayIb := DelayRow.specDefault,
    shiftEnds := .specTable, logicNet := .uninterpreted, addrLoadHi := .uninterpreted }

/-- REFILL_TARGET(e, m) (R318). -/
def Params.refillTarget (p : Params) (e m : Bool) : MAddr :=
  match e, m with
  | false, false => p.refillNotEmpty
  | false, true => p.refillNotEmptyInt
  | true, false => p.refillEmpty
  | true, true => p.refillEmptyInt

/-- TRAP_DELAY as the row of a cause. -/
def Params.delayRow (p : Params) : Cause → DelayRow
  | .controlStoreParity => p.delayParity
  | .memoryFault => p.delayMemory
  | .stackOverUnderflow => p.delayStack
  | .ibEmpty => p.delayIb

/-- TRAP_DELAY(cause, cycle) (R405). -/
def Params.trapDelay (p : Params) (c : Cause) (cycle : Cycle) : TrapDelay :=
  match cycle with
  | .c1 => (p.delayRow c).inC1
  | .c2 => (p.delayRow c).inC2
  | .c3 => (p.delayRow c).inC3

/-- The count a delay starts. -/
def TrapDelay.count : TrapDelay → Nat
  | .one => 1
  | .two => 2

/-- How many phases serve a slot. -/
def Params.phases (p : Params) (k : ClickSlot) : Nat := (p.clickMap.toList.filter (fun x => decide (x = k))).length

/-- The constraints the document puts on the parameters: the four refill targets pairwise distinct and disjoint from the kept
mask (R318); two Ethernet phases, one Disk, one IOP, one Display-or-Refresh (R383). -/
def Params.admissible (p : Params) : Bool :=
  decide ([p.refillNotEmpty, p.refillNotEmptyInt, p.refillEmpty, p.refillEmptyInt].Nodup)
    && [p.refillNotEmpty, p.refillNotEmptyInt, p.refillEmpty, p.refillEmptyInt].all
        (fun t => decide (t &&& p.refillKeep = 0))
    && decide (p.phases .ethernet = 2) && decide (p.phases .disk = 1) && decide (p.phases .iop = 1)
    && decide (p.phases .displayOrRefresh = 1)

end Sys2Proof
end

