-- ==== Sys2Proof/Machine/State.lean ====
section
/-! DEFINITION. The state of the CORE as plain data (10_state.md R20 to R49), the model's own fields for the parameters and the
environment, the reasons a step can stop, and the state right after reset (R49, R450). -/

namespace Sys2Proof.Machine

/-- Why a step stops with a fault. There is none: the cycle step never fails (49_cycle_click_tasks.md R370) and a model has no
outcome for InvalidDecode (60_exceptions.md R425). Safe: error causes are state, taken by the deferred trap (R403 to R409). -/
inductive Fault where
deriving DecidableEq, Repr

/-- Why a step has no meaning. -/
inductive Refusal where
  /-- Raised by an arm of exec whose instruction has no meaning yet; no arm raises it. Safe: nothing follows from it. -/
  | notModelled (mnemonic : String)
  /-- Raised by a microinstruction that codes `IB<-` with the buffer Word or Full (46_ib.md R313; 93_implementation_defined.md
  U7, treatment refuse). Safe: the document gives it no effect, and the model claims none. -/
  | ibLoadWithoutRoom
  /-- Raised by a microinstruction that codes `IB<-` together with a consume: AlwaysIBDisp, `<-ib` or `<-ibLow` (R313, U7,
  treatment refuse). Safe: as above. -/
  | ibLoadWithConsume
deriving DecidableEq, Repr

/-- The eight tasks (10_state.md R33). -/
inductive Task where
  /-- 0 -/
  | emulator
  /-- 1 -/
  | display
  /-- 2 -/
  | ethernet
  /-- 3 -/
  | refresh
  /-- 4 -/
  | disk
  /-- 5 -/
  | iop
  /-- 6 -/
  | iopControlStore
  /-- 7 -/
  | kernel
deriving DecidableEq, Repr, Inhabited

/-- The instruction-buffer pointer (R29). -/
inductive IbPtr where
  /-- no byte held -/
  | empty
  /-- one byte -/
  | byte
  /-- two bytes -/
  | word
  /-- three bytes -/
  | full
deriving DecidableEq, Repr, Inhabited

/-- The merge rule the current task's next instruction must use (R42). -/
inductive PendKind where
  /-- plain OR -/
  | plain
  /-- IB dispatch with the byte consumed -/
  | ibDisp (b : Byte)
  /-- refill trap: `e`, the buffer was Empty; `m`, a macro interrupt is pending -/
  | refill (e m : Bool)
deriving DecidableEq, Repr, Inhabited

/-- The signaled causes as a set (R37). -/
structure ErrSet where
  /-- cause 0 -/
  parity : Bool
  /-- cause 1 -/
  memory : Bool
  /-- cause 2 -/
  stack : Bool
  /-- cause 3 -/
  ib : Bool
deriving DecidableEq, Repr, Inhabited

/-- The two kinds of address-register load (20_memory.md R66). -/
inductive AddrKind where
  /-- untranslated -/
  | physical
  /-- through the map -/
  | mapped
deriving DecidableEq, Repr, Inhabited

/-- Whose request a ClearRequest event clears (43_y_control.md R260 to R262). -/
inductive Requester where
  /-- `ClrDPRq` -/
  | display
  /-- `ClrIOPRq` -/
  | iop
  /-- `ClrKFlags` -/
  | diskFlags
deriving DecidableEq, Repr, Inhabited

/-- What the CORE sends out (20_memory.md R66, R70). -/
inductive Event where
  /-- `LoadAddressRegister(kind, v24)` -/
  | loadAddressRegister (kind : AddrKind) (v : BitVec 24)
  /-- `LoadDataRegister(v16)` -/
  | loadDataRegister (v : Word)
  /-- `DeviceWrite(port, v16)` -/
  | deviceWrite (port : BitVec 4) (v : Word)
  /-- `DeviceStrobe(port)` -/
  | deviceStrobe (port : BitVec 4)
  /-- `Refresh()` -/
  | refresh
  /-- `ClearRequest(which)` -/
  | clearRequest (which : Requester)
deriving DecidableEq, Repr, Inhabited

/-- The environment's answer to `ReadDataRegister` (R66). -/
structure DataAnswer where
  /-- the word delivered, whether or not it is valid (R69) -/
  value : Word
  /-- false raises MemoryFault (R69) -/
  valid : Bool
deriving DecidableEq, Repr, Inhabited

/-- What the environment answers to the queries of one cycle (R70). -/
structure EnvInputs where
  /-- `env.ReadDataRegister(task)`, by task number -/
  data : Vector DataAnswer (2 ^ 3)
  /-- `env.DeviceRead(port)`, by port (41_bus_input.md R197) -/
  device : Vector Word (2 ^ 4)
  /-- `env.IODisp()` (44_y_branch.md R281) -/
  ioDisp : BitVec 2
  /-- `env.DisplayEnabled()` (49_cycle_click_tasks.md R383) -/
  displayEnabled : Bool
deriving DecidableEq, Repr, Inhabited

/-- What the environment can do between two cycle steps (R371). Its reads (CSRead, TPCRead*) change nothing and are functions
of the state. -/
inductive EnvAct where
  /-- `CSWrite(a, w)` (R62) -/
  | csWrite (a : MAddr) (w : MWord)
  /-- `TPCWriteHigh(t, b8)` (R74) -/
  | tpcWriteHigh (t : Task) (b : Byte)
  /-- `TPCWriteLow(t, b8)` (R74) -/
  | tpcWriteLow (t : Task) (b : Byte)
  /-- `WakeTask(t)` (R415) -/
  | wakeTask (t : Task)
  /-- `SleepTask(t)` (R416) -/
  | sleepTask (t : Task)
  /-- reset (R450) -/
  | reset
deriving DecidableEq, Repr, Inhabited

/-- The environment between two steps: its acts, then its answers for the next cycle. -/
structure EnvTick where
  /-- the acts, first one first -/
  acts : List EnvAct
  /-- the answers to the next cycle's queries -/
  answers : EnvInputs
deriving DecidableEq, Repr, Inhabited

/-- One listed control-store word: address and contents. The smallest unit the spec addresses is the 48-bit word (R60, R61). -/
abbrev Cell := Nat × MWord

/-- The control store, as the words that differ from `csFill`, addresses strictly rising (notes/assumptions/18.md). -/
abbrev Memory := List Cell

/-- What an unlisted control-store address holds: the spec's idle word (R115, goto 0x000). CS_INIT is the model's argument
(R39, R450): DESIGN CHOICE, unsafe for statements about State.reset only (notes/assumptions/10.md). -/
def csFill : MWord := 0x000100888000

/-- The state of the CORE. -/
structure State where
  /-- `R[0..15]` (R20) -/
  r : Vector Word (2 ^ 4)
  /-- `Q` (R21) -/
  q : Word
  /-- the ALU flags of the last cycle (R22) -/
  flags : Flags
  /-- `SU[0..255]` (R23) -/
  su : Vector Word (2 ^ 8)
  /-- `RH[0..15]` (R24) -/
  rh : Vector Byte (2 ^ 4)
  /-- `Link[0..7]` (R25) -/
  link : Vector Nibble (2 ^ 3)
  /-- the stack pointer (R26) -/
  stackP : Nibble
  /-- the toggling bit (R27) -/
  pc16 : Bool
  /-- front byte of the instruction buffer (R28) -/
  ibFront : Byte
  /-- last word loaded into the instruction buffer (R28) -/
  ibPair : Word
  /-- instruction-buffer pointer (R29) -/
  ibPtr : IbPtr
  /-- `TPC[0..7]` (R30) -/
  tpc : Vector MAddr (2 ^ 3)
  /-- `TC[0..7]` (R31) -/
  tc : Vector Nibble (2 ^ 3)
  /-- `wake[0..7]` (R32) -/
  wake : Vector Bool (2 ^ 3)
  /-- current task (R34) -/
  curTask : Task
  /-- cycle index (R35) -/
  cycle : Cycle
  /-- click index (R36) -/
  click : Fin 5
  /-- signaled causes (R37) -/
  errSet : ErrSet
  /-- trap countdown (R38) -/
  trapCount : Nat
  /-- the control store (R39) -/
  cs : Memory
  /-- pending macro interrupt (R40) -/
  mint : Bool
  /-- pending next-address modifier NIAX (R41) -/
  niax : Nibble
  /-- pending merge rule (R42) -/
  pendKind : PendKind
  /-- page-cross latch (R43) -/
  pageCrossLatch : Bool
  /-- buffer-empty latch (R44) -/
  ibEmptyLatch : Bool
  /-- Kernel exit signal (R45) -/
  kernelExit : Bool
  /-- waiting to be woken (R46) -/
  waiting : Bool
  /-- MODEL's own: the open parameters, constant (notes/assumptions/5.md) -/
  params : Params
  /-- MODEL's own: the environment's answers for the coming cycle (notes/assumptions/3.md) -/
  inputs : EnvInputs
  /-- MODEL's own: the environment's coming acts and answers, one entry a step (notes/assumptions/3.md) -/
  script : List EnvTick
  /-- MODEL's own: the events emitted, oldest first (R70; notes/assumptions/16.md) -/
  events : List Event
deriving DecidableEq, Repr

/-- The answers of the reset state: every word 0 and valid (DESIGN CHOICE, notes/assumptions/3.md). -/
def EnvInputs.quiet : EnvInputs :=
  { data := Vector.replicate _ { value := 0, valid := true }, device := Vector.replicate _ 0, ioDisp := 0,
    displayEnabled := false }

/-- The machine right after reset (10_state.md R49, 70_reset_and_hazards.md R450). -/
def State.reset : State :=
  { r := Vector.replicate _ 0, q := 0,
    flags := { zero := false, negative := false, nibbleCarry := false, pageCarry := false, carryOut := false,
               overflow := false },
    su := Vector.replicate _ 0, rh := Vector.replicate _ 0, link := Vector.replicate _ 0, stackP := 0, pc16 := false,
    ibFront := 0, ibPair := 0, ibPtr := .empty, tpc := Vector.replicate _ 0, tc := Vector.replicate _ 0,
    wake := Vector.replicate _ false, curTask := .kernel, cycle := .c1, click := 0,
    errSet := { parity := false, memory := false, stack := false, ib := false }, trapCount := 0, cs := [],
    mint := false, niax := 0, pendKind := .plain, pageCrossLatch := false, ibEmptyLatch := false, kernelExit := false,
    waiting := true, params := Params.specDefault, inputs := EnvInputs.quiet, script := [], events := [] }

end Sys2Proof.Machine
end

