-- ==== Sys2Proof/Machine/Ops.lean ====
section
/-! DEFINITION. The named operations over registers, the control store, the instruction buffer, the task table and the error
state; raising an error cause and taking the error trap (60_exceptions.md), each ONE shared operation; the acts of the
environment between two steps (49_cycle_click_tasks.md R371). -/

namespace Sys2Proof.Machine

/-! ### Register files -/

/-- Read entry `i` of a register file; every index of the field's width names an entry. -/
def rd {α : Type} {k : Nat} (v : Vector α (2 ^ k)) (i : BitVec k) : α := v[i.toNat]'i.isLt

/-- Write entry `i` of a register file. -/
def wr {α : Type} {k : Nat} (v : Vector α (2 ^ k)) (i : BitVec k) (x : α) : Vector α (2 ^ k) := v.set i.toNat x i.isLt

/-- Task identifiers (10_state.md R33). -/
def Task.id : Task → BitVec 3
  | .emulator => 0
  | .display => 1
  | .ethernet => 2
  | .refresh => 3
  | .disk => 4
  | .iop => 5
  | .iopControlStore => 6
  | .kernel => 7

/-! ### Control store (20_memory.md R60 to R63) -/

/-- The word at address `a`; an unlisted address holds `csFill`. -/
def Memory.read : Memory → Nat → MWord
  | [], _ => csFill
  | (b, v) :: rest, a => if a = b then v else Memory.read rest a

/-- Put a word into the list; writing `csFill` removes the entry, so that equal stores are equal lists. -/
def Memory.write : Memory → Nat → MWord → Memory
  | [], a, w => if w = csFill then [] else [(a, w)]
  | (b, v) :: rest, a, w =>
    if a < b then (if w = csFill then (b, v) :: rest else (a, w) :: (b, v) :: rest)
    else if a = b then (if w = csFill then rest else (a, w) :: rest)
    else (b, v) :: Memory.write rest a w

/-- The list is canonical from address `lo` up: addresses rising, below 4096, no entry equal to `csFill`. -/
def Memory.wfFrom : Nat → Memory → Bool
  | _, [] => true
  | lo, (a, w) :: rest => decide (lo ≤ a) && decide (a < 4096) && decide (w ≠ csFill) && Memory.wfFrom (a + 1) rest

/-- The canonical form of the control store. -/
def Memory.wf (m : Memory) : Bool := Memory.wfFrom 0 m

/-- `CSRead(a)` (R62): no state change. -/
def csRead (s : State) (a : MAddr) : MWord := Memory.read s.cs a.toNat

/-- `CSWrite(a, w)` (R62), seen by the next fetch of `a` (R63). -/
def csWrite (a : MAddr) (w : MWord) (s : State) : State := { s with cs := Memory.write s.cs a.toNat w }

/-! ### Per-task program-counter port (R74) -/

/-- `TPCWriteHigh(t, b8)`: `TPC[t][11:8] <- b8[3:0]`. -/
def tpcWriteHigh (t : Task) (b : Byte) (s : State) : State :=
  { s with tpc := wr s.tpc t.id (b.extractLsb' 0 4 ++ (rd s.tpc t.id).extractLsb' 0 8) }

/-- `TPCWriteLow(t, b8)`: `TPC[t][7:0] <- b8`. -/
def tpcWriteLow (t : Task) (b : Byte) (s : State) : State :=
  { s with tpc := wr s.tpc t.id ((rd s.tpc t.id).extractLsb' 8 4 ++ b) }

/-- `TPCReadHigh(t)`: the saved modifier and the high nibble of the counter. -/
def tpcReadHigh (s : State) (t : Task) : Byte := rd s.tc t.id ++ (rd s.tpc t.id).extractLsb' 8 4

/-- `TPCReadLow(t)`. -/
def tpcReadLow (s : State) (t : Task) : Byte := (rd s.tpc t.id).extractLsb' 0 8

/-! ### Wake flags (60_exceptions.md R415 to R417) -/

/-- `WakeTask(t)` (R415): sets the flag and clears the reset latch (R417). -/
def wakeTask (t : Task) (s : State) : State := { s with wake := wr s.wake t.id true, waiting := false }

/-- `SleepTask(t)` (R416). -/
def sleepTask (t : Task) (s : State) : State := { s with wake := wr s.wake t.id false }

/-! ### Error causes and the error trap -/

/-- No cause signaled. -/
def ErrSet.empty : ErrSet := { parity := false, memory := false, stack := false, ib := false }

/-- `errSet ∪ {c}` (R403). -/
def ErrSet.insert (e : ErrSet) : Cause → ErrSet
  | .controlStoreParity => { e with parity := true }
  | .memoryFault => { e with memory := true }
  | .stackOverUnderflow => { e with stack := true }
  | .ibEmpty => { e with ib := true }

/-- The cause is signaled. -/
def ErrSet.has (e : ErrSet) : Cause → Bool
  | .controlStoreParity => e.parity
  | .memoryFault => e.memory
  | .stackOverUnderflow => e.stack
  | .ibEmpty => e.ib

/-- The 2-bit code of a cause (R400). -/
def causeCode : Cause → BitVec 2
  | .controlStoreParity => 0
  | .memoryFault => 1
  | .stackOverUnderflow => 2
  | .ibEmpty => 3

/-- `errCode`, the smallest signaled cause (10_state.md R37, R406); none when nothing is signaled. -/
def ErrSet.errCode (e : ErrSet) : Option (BitVec 2) :=
  if e.parity then some 0
  else if e.memory then some 1
  else if e.stack then some 2
  else if e.ib then some 3
  else none

/-- `raise Err(c)` (R403, R404): the cause is added, and the countdown starts if no trap is pending. It aborts nothing. -/
def raiseErr (c : Cause) (s : State) : State :=
  { s with
    errSet := s.errSet.insert c
    trapCount := if s.trapCount = 0 then (s.params.trapDelay c s.cycle).count else s.trapCount }

/-- TAKING the error trap (R409): the Emulator continues at address 0, the live modifier and the pending dispatch are dropped.
Nothing is saved: no return address, no mode, no mask; `errSet` is kept for the handler. There is no return instruction
(R412): the handler resumes by ordinary jumps, so no operation stands beside this one. -/
def takeTrap (s : State) : State := { s with tpc := wr s.tpc (Task.id .emulator) 0, niax := 0, pendKind := .plain }

/-- The countdown of the click step (R408): once per click that the Emulator executed, taking the trap when it reaches 0. -/
def trapCountdown (s : State) : State :=
  if s.curTask = .emulator ∧ 0 < s.trapCount then
    if s.trapCount = 1 then takeTrap { s with trapCount := 0 } else { s with trapCount := s.trapCount - 1 }
  else s

/-! ### Instruction buffer (46_ib.md) -/

/-- The instruction buffer's three registers together (10_state.md R28, R29). -/
structure IbData where
  /-- `ibFront` -/
  front : Byte
  /-- `ibPair` -/
  pair : Word
  /-- `ibPtr` -/
  ptr : IbPtr
deriving DecidableEq, Repr, Inhabited

/-- The buffer in a state. -/
def State.ib (s : State) : IbData := { front := s.ibFront, pair := s.ibPair, ptr := s.ibPtr }

/-- `ibCount` (R29), 2 bits. -/
def IbPtr.count : IbPtr → BitVec 2
  | .empty => 0
  | .byte => 1
  | .word => 2
  | .full => 3

/-- There is room for two more bytes (R312, R313). -/
def IbPtr.hasRoom : IbPtr → Bool
  | .empty => true
  | .byte => true
  | .word => false
  | .full => false

/-- The load of R312. With the pointer Word or Full the instruction is refused before this is asked (R313), and the buffer is
returned as it was. -/
def IbData.load (b : IbData) (x : Word) : IbData :=
  match b.ptr with
  | .empty => { front := x.extractLsb' 8 8, pair := x, ptr := .word }
  | .byte => { front := b.front, pair := x, ptr := .full }
  | .word => b
  | .full => b

/-- The consume step of R314: Full to Word to Byte to Empty, stable at Empty. -/
def IbData.consume (b : IbData) : IbData :=
  match b.ptr with
  | .full => { b with front := b.pair.extractLsb' 8 8, ptr := .word }
  | .word => { b with front := b.pair.extractLsb' 0 8, ptr := .byte }
  | .byte => { b with ptr := .empty }
  | .empty => b

/-! ### The environment between two steps (49_cycle_click_tasks.md R371) -/

/-- Reset (70_reset_and_hazards.md R450): every register of R49; the control store is not cleared by reset; the model's own
fields are not registers and stay (notes/assumptions/11.md). -/
def resetCore (s : State) : State :=
  { State.reset with
    cs := s.cs, params := s.params, inputs := s.inputs, script := s.script, events := s.events }

/-- One act of the environment. -/
def applyAct (a : EnvAct) (s : State) : State :=
  match a with
  | .csWrite a w => csWrite a w s
  | .tpcWriteHigh t b => tpcWriteHigh t b s
  | .tpcWriteLow t b => tpcWriteLow t b s
  | .wakeTask t => wakeTask t s
  | .sleepTask t => sleepTask t s
  | .reset => resetCore s

/-- Acts in order. -/
def applyActs : List EnvAct → State → State
  | [], s => s
  | a :: rest, s => applyActs rest (applyAct a s)

/-- The environment's turn after a step: the next entry of the script gives its acts and its answers to the coming cycle's
queries; with the script empty it does nothing and its answers stay (notes/assumptions/3.md, 4.md). -/
def envPhase (s : State) : State :=
  match s.script with
  | [] => s
  | t :: rest => applyActs t.acts { s with script := rest, inputs := t.answers }

end Sys2Proof.Machine
end

