-- ==== Sys2Proof/Machine/Flags.lean ====
section
/-! DEFINITION. The ALU's functions and flags (40_alu.md R149 to R167): one 16-bit addition for the three arithmetic functions,
with its carries from the nibble tables; the five logical functions, whose carry-type flags the document leaves without a
formula; and the address-load override. -/

namespace Sys2Proof.Machine

/-- A result and its four carry-type flags. -/
structure AluVal where
  /-- the 16-bit function value -/
  f : Word
  /-- NibbleCarry, PageCarry, CarryOut, Overflow -/
  carries : Carries
deriving DecidableEq, Repr, Inhabited

/-- A result and its six flags. -/
structure AluOut where
  /-- `F` (R164) -/
  f : Word
  /-- the six flags -/
  flags : Flags
deriving DecidableEq, Repr, Inhabited

/-- Zero and Negative are taken from the final result (R159). -/
def AluVal.out (v : AluVal) : AluOut :=
  { f := v.f
    flags := { zero := decide (v.f = 0), negative := v.f.getLsbD 15, nibbleCarry := v.carries.nibble,
               pageCarry := v.carries.page, carryOut := v.carries.carry, overflow := v.carries.overflow } }

/-! ### Arithmetic -/

/-- The carry table `CT[x][y][c]` (R150). -/
def carryTable (x y : BitVec 4) (c : Bool) : Bool := decide (16 ≤ x.toNat + y.toNat + c.toNat)

/-- Nibble `k` of a word. -/
def nib (v : Word) (k : Nat) : BitVec 4 := v.extractLsb' (4 * k) 4

/-- The carry out of nibble `k` of the cascade (R150): `c4`, `c8`, `c12`, `c16` for `k` = 0 to 3. -/
def cascade (a b : Word) (cin : Bool) : Nat → Bool
  | 0 => carryTable (nib a 0) (nib b 0) cin
  | k + 1 => carryTable (nib a (k + 1)) (nib b (k + 1)) (cascade a b cin k)

/-- The carry-in as a word. -/
def carryWord (cin : Bool) : Word := if cin then 1 else 0

/-- The one addition behind the arithmetic functions (R149, R160, R161). -/
def addCore (a b : Word) (cin : Bool) : AluVal :=
  { f := a + b + carryWord cin
    carries :=
      { nibble := cascade a b cin 0, page := cascade a b cin 1, carry := cascade a b cin 3,
        overflow := decide (a.getLsbD 15 = b.getLsbD 15)
          && decide ((a + b + carryWord cin).getLsbD 15 ≠ a.getLsbD 15) } }

/-- R + S (R151). -/
def fnAdd (r s : Word) (cin : Bool) : AluVal := addCore r s cin

/-- S - R: the addends are `~R` and S (R149, R152). -/
def fnSubr (r s : Word) (cin : Bool) : AluVal := addCore (~~~r) s cin

/-- R - S: the addends are R and `~S` (R149, R153). -/
def fnSubs (r s : Word) (cin : Bool) : AluVal := addCore r (~~~s) cin

/-! ### The carry network of the logical functions (R162) -/

/-- The function takes the complemented R nibble in the network of 93_implementation_defined.md U1. -/
def complementsR : AluFn → Bool
  | .notrs => true
  | .xor => true
  | _ => false

/-- Carry and overflow of one slice in the instance of U1 (PRESUMED: the spec marks it unverified,
notes/assumptions/6.md). -/
def sliceNet (fn : AluFn) (r s : BitVec 4) (c : Bool) : HighCarries :=
  let r' := if complementsR fn then ~~~r else r
  let p := fun i => (r' ||| s).getLsbD i
  let g := fun i => (r' &&& s).getLsbD i
  match fn with
  | .or =>
    let v := !(p 3 && p 2 && p 1 && p 0) || c
    { carry := v, overflow := v }
  | .and | .notrs =>
    let v := (g 3 || g 2 || g 1 || g 0) || c
    { carry := v, overflow := v }
  | _ =>
    let a := !p 2 || (!g 2 && !p 1) || (!g 2 && !g 1 && !p 0) || (!g 2 && !g 1 && !g 0 && c)
    let b := !p 3 || (!g 3 && !p 2) || (!g 3 && !g 2 && !p 1) || (!g 3 && !g 2 && !g 1 && !p 0)
      || (!g 3 && !g 2 && !g 1 && !g 0 && c)
    { carry := !(g 3 || (p 3 && g 2) || (p 3 && p 2 && g 1) || (p 3 && p 2 && p 1 && p 0 && (g 0 || !c)))
      overflow := xor a b }

/-- The carry into slice `k` of U1, chained from the carry-in. -/
def sliceCarry (fn : AluFn) (r s : Word) (cin : Bool) : Nat → Bool
  | 0 => cin
  | k + 1 => (sliceNet fn (nib r k) (nib s k) (sliceCarry fn r s cin k)).carry

/-- LOGIC_NET in the instance of U1. -/
def suggestedNet (fn : AluFn) (r s : Word) (cin : Bool) : Carries :=
  { nibble := sliceCarry fn r s cin 1, page := sliceCarry fn r s cin 2, carry := sliceCarry fn r s cin 4,
    overflow := (sliceNet fn (nib r 3) (nib s 3) (sliceCarry fn r s cin 3)).overflow }

/-- LOGIC_NET (R162): uninterpreted unless the machine's parameters choose the instance of U1. -/
def logicNet (n : NetChoice) (fn : AluFn) (r s : Word) (cin : Bool) : Carries :=
  match n with
  | .uninterpreted => Config.logicNet fn r s cin
  | .suggested => suggestedNet fn r s cin

/-- R or S (R154). -/
def fnOr (n : NetChoice) (r s : Word) (cin : Bool) : AluVal := { f := r ||| s, carries := logicNet n .or r s cin }

/-- R and S (R155). -/
def fnAnd (n : NetChoice) (r s : Word) (cin : Bool) : AluVal := { f := r &&& s, carries := logicNet n .and r s cin }

/-- not R, and S (R156). -/
def fnNotRS (n : NetChoice) (r s : Word) (cin : Bool) : AluVal :=
  { f := ~~~r &&& s, carries := logicNet n .notrs r s cin }

/-- R xor S (R157). -/
def fnXor (n : NetChoice) (r s : Word) (cin : Bool) : AluVal := { f := r ^^^ s, carries := logicNet n .xor r s cin }

/-- not (R xor S) (R158). -/
def fnXnor (n : NetChoice) (r s : Word) (cin : Bool) : AluVal :=
  { f := ~~~(r ^^^ s), carries := logicNet n .xnor r s cin }

/-- The nominal evaluation of a function code (R93, R149 to R162). -/
def aluFn (n : NetChoice) (fn : AluFn) (r s : Word) (cin : Bool) : AluVal :=
  match fn with
  | .add => fnAdd r s cin
  | .subr => fnSubr r s cin
  | .subs => fnSubs r s cin
  | .or => fnOr n r s cin
  | .and => fnAnd n r s cin
  | .notrs => fnNotRS n r s cin
  | .xor => fnXor n r s cin
  | .xnor => fnXnor n r s cin

/-! ### Address-load mode (R164, R165) -/

/-- The forced function `hf = aF | 3` is 7, the complement of exclusive-or, rather than 3, or: `aF` is 4 to 7 (R164). -/
def forcesXnor : AluFn → Bool
  | .add => false
  | .subr => false
  | .subs => false
  | .or => false
  | .and => true
  | .notrs => true
  | .xor => true
  | .xnor => true

/-- The top byte of the result in address-load mode: that of `R[rB]`, or its complement (R164). -/
def addrLoadTop (fn : AluFn) (b : Word) : Byte :=
  if forcesXnor fn then ~~~(b.extractLsb' 8 8) else b.extractLsb' 8 8

/-- The forced function code (R164). -/
def forcedFn (fn : AluFn) : AluFn := if forcesXnor fn then .xnor else .or

/-- ADDRLOAD_HI derived from U1: slices 2 and 3 on (0, `R[rB]`) with the carry-in entering slice 2 (93 U2, PRESUMED,
notes/assumptions/7.md). -/
def suggestedHi (fn : AluFn) (bHigh : Byte) (cin : Bool) : HighCarries :=
  sliceNet (forcedFn fn) 0 (bHigh.extractLsb' 4 4) (sliceNet (forcedFn fn) 0 (bHigh.extractLsb' 0 4) cin).carry

/-- ADDRLOAD_HI (R165): uninterpreted unless the machine's parameters choose the instance of U2. -/
def addrLoadHi (n : NetChoice) (fn : AluFn) (bHigh : Byte) (cin : Bool) : HighCarries :=
  match n with
  | .uninterpreted => Config.addrLoadHi (forcesXnor fn) bHigh cin
  | .suggested => suggestedHi fn bHigh cin

/-- The address-load override (R164, R165): the top byte is recomputed from `R[rB]`; NibbleCarry and PageCarry stay the nominal
ones; CarryOut and Overflow come from ADDRLOAD_HI. -/
def addrLoadOverride (n : NetChoice) (fn : AluFn) (b : Word) (cin : Bool) (v : AluVal) : AluVal :=
  { f := addrLoadTop fn b ++ v.f.extractLsb' 0 8
    carries :=
      { nibble := v.carries.nibble, page := v.carries.page,
        carry := (addrLoadHi n fn (b.extractLsb' 8 8) cin).carry,
        overflow := (addrLoadHi n fn (b.extractLsb' 8 8) cin).overflow } }

end Sys2Proof.Machine
end

