-- ==== Sys2Proof/Machine/Operands.lean ====
section
/-! DEFINITION. The operands of a cycle, all read from the state at its start (49_cycle_click_tasks.md R372): the effective
carry-in, the SU address, the X bus and its sources, the ALU's source pair, the ALU call, the Y bus, the write-back and its
shift ends, and the modifier bits of the branch and dispatch operations. -/

namespace Sys2Proof.Machine

/-! ### Register operands and the carry-in -/

/-- `R[rA]` (30_encoding.md R91). -/
def regA (m : Micro) (s : State) : Word := rd s.r m.rA

/-- `R[rB]` (R91). -/
def regB (m : Micro) (s : State) : Word := rd s.r m.rB

/-- `RH[rB]` (R91). -/
def rhB (m : Micro) (s : State) : Byte := rd s.rh m.rB

/-- The effective carry-in (40_alu.md R180). -/
def effCin (m : Micro) (s : State) : Bool := if m.cinToggle then s.pc16 else m.cin

/-! ### The X bus (41_bus_input.md) -/

/-- The SU address (R216): direct in U-address mode, else the stack entry. -/
def suAddr (m : Micro) (s : State) : Byte :=
  match m.suDirect? with
  | some lo => m.rA ++ lo
  | none => 0#4 ++ s.stackP

/-- The status word of `<-ErrIBStk` (R207). -/
def errIbStk (s : State) : Word :=
  0#8 ++ (s.errSet.errCode.getD s.params.errNoneRead) ++ ~~~s.ibPtr.count ++ ~~~s.stackP

/-- A byte on the low half of the bus. -/
def busByte (b : Byte) : Word := 0#8 ++ b

/-- A nibble on the low quarter of the bus. -/
def busNibble (n : Nibble) : Word := 0#12 ++ n

/-- `env.DeviceRead(k)` (R197): the answer of the environment for this cycle. -/
def deviceRead (s : State) (k : BitVec 4) : Word := rd s.inputs.device k

/-- `env.ReadDataRegister(curTask)` (20_memory.md R66, R236). -/
def dataRead (s : State) : DataAnswer := rd s.inputs.data s.curTask.id

/-- What a Z-plane input code drives onto X; none for the two strobes (R193, R197 to R212). -/
def inputValue (op : ZInput) (m : Micro) (s : State) : Option Word :=
  match op with
  | .eiData => some (deviceRead s 0)
  | .eStatus => some (deviceRead s 1)
  | .kiData => some (deviceRead s 2)
  | .kStatus => some (deviceRead s 3)
  | .kStrobe => none
  | .mStatus => some (deviceRead s 5)
  | .kTest => some (deviceRead s 6)
  | .eStrobe => none
  | .iopIData => some (deviceRead s 8)
  | .iopStatus => some (deviceRead s 9)
  | .errIBStk => some (errIbStk s)
  | .rh => some (busByte (rhB m s))
  | .ibNA => some (busByte s.ibFront)
  | .ib => some (busByte s.ibFront)
  | .ibLow => some (busNibble (s.ibFront.extractLsb' 0 4))
  | .ibHigh => some (busNibble (s.ibFront.extractLsb' 4 4))

/-- Sources (1) and (2) of R190: a literal (R191, R192). -/
def constSource (m : Micro) : Option Word := m.const?.map busByte

/-- Source (3) of R190: a Z-plane input that reads (R193). -/
def inputSource (m : Micro) (s : State) : Option Word := m.input?.bind (fun op => inputValue op m s)

/-- Source (4) of R190: the rotate bypass (R213, R220 to R223). -/
def rotSource (m : Micro) (s : State) : Option Word := m.rotAmount.map (fun n => (regA m s).rotateLeft n)

/-- Source (5) of R190: the SU read (R215). -/
def suSource (m : Micro) (s : State) : Option Word := if m.suRead then some (rd s.su (suAddr m s)) else none

/-- Source (6) of R190: in cycle 3 with `mem`, the memory data register (R196, 42_memory_staging.md R236). -/
def memSource (m : Micro) (s : State) : Option Word :=
  if m.mem && decide (s.cycle = .c3) then some (dataRead s).value else none

/-- The X bus: the first coded source of R190, else the idle value (R194). -/
def xBus (m : Micro) (s : State) : Word :=
  (constSource m <|> inputSource m s <|> rotSource m s <|> suSource m s <|> memSource m s).getD s.params.xbusIdle

/-! ### The ALU call (40_alu.md R148) -/

/-- The operand pair (R, S) (R140 to R147). -/
def srcPair (m : Micro) (s : State) : Word × Word :=
  match m.aS with
  | .aq => (regA m s, s.q)
  | .ab => (regA m s, regB m s)
  | .zq => (0, s.q)
  | .zb => (0, regB m s)
  | .za => (0, regA m s)
  | .da => (xBus m s, regA m s)
  | .dq => (xBus m s, s.q)
  | .dz => (xBus m s, 0)

/-- Address-load mode: a physical address load, in cycle 1 (30_encoding.md R132, 42_memory_staging.md R232). -/
def addressLoadMode (m : Micro) (s : State) : Bool := m.mem && decide (s.cycle = .c1) && !m.mapLoad

/-- The nominal function result and carries. -/
def nominal (m : Micro) (s : State) : AluVal :=
  aluFn s.params.logicNet m.aF (srcPair m s).1 (srcPair m s).2 (effCin m s)

/-- The ALU's result `F` and its six flags (R148, R159, R164, R165). -/
def aluOut (m : Micro) (s : State) : AluOut :=
  if addressLoadMode m s then
    (addrLoadOverride s.params.addrLoadHi m.aF (regB m s) (effCin m s) (nominal m s)).out
  else (nominal m s).out

/-- The final result `F`. -/
def aluF (m : Micro) (s : State) : Word := (aluOut m s).f

/-- The Y bus (R170): `F`, but the old `R[rA]` for write-back code 2. -/
def yBus (m : Micro) (s : State) : Word :=
  match m.dest with
  | .ba => regA m s
  | _ => aluF m s

/-! ### Write-back (R171 to R179) -/

/-- The default table of R179. The single-word codes do not use `qIn`. -/
def shiftEndsTable (d : Dest) (isCycle : Bool) (f q : Word) (cin : Bool) : ShiftEnds :=
  match d with
  | .doubleRight => { ramIn := if isCycle then q.getLsbD 0 else cin, qIn := f.getLsbD 0 }
  | .singleRight => { ramIn := if isCycle then f.getLsbD 0 else cin, qIn := false }
  | .doubleLeft => { ramIn := q.getLsbD 15, qIn := if isCycle then f.getLsbD 15 else cin }
  | .singleLeft => { ramIn := if isCycle then f.getLsbD 15 else cin, qIn := false }
  | _ => { ramIn := false, qIn := false }

/-- SHIFT_ENDS (R179): the spec's table, or uninterpreted if the machine's parameters say so. -/
def shiftEnds (ch : ShiftChoice) (d : Dest) (isCycle : Bool) (f q : Word) (cin : Bool) (fl : Flags) : ShiftEnds :=
  match ch with
  | .specTable => shiftEndsTable d isCycle f q cin
  | .uninterpreted => Config.shiftEnds d isCycle f q cin fl

/-- The ends of this cycle's shift. -/
def endsOf (m : Micro) (s : State) : ShiftEnds :=
  shiftEnds s.params.shiftEnds m.dest m.isCycle (aluF m s) s.q (effCin m s) (aluOut m s).flags

/-- One place right, `b` entering at the top: `{b, v[15:1]}`. -/
def shiftRight1 (b : Bool) (v : Word) : Word := BitVec.ofBool b ++ v.extractLsb' 1 15

/-- One place left, `b` entering at the bottom: `{v[14:0], b}`. -/
def shiftLeft1 (v : Word) (b : Bool) : Word := v.extractLsb' 0 15 ++ BitVec.ofBool b

/-- The value written to `R[rB]`, none for the codes that write no general register (R171 to R178). -/
def writeR (m : Micro) (s : State) : Option Word :=
  match m.dest with
  | .q => none
  | .none => none
  | .ba => some (aluF m s)
  | .b => some (aluF m s)
  | .doubleRight => some (shiftRight1 (endsOf m s).ramIn (aluF m s))
  | .singleRight => some (shiftRight1 (endsOf m s).ramIn (aluF m s))
  | .doubleLeft => some (shiftLeft1 (aluF m s) (endsOf m s).ramIn)
  | .singleLeft => some (shiftLeft1 (aluF m s) (endsOf m s).ramIn)

/-- The value of Q after the cycle (R171 to R178). -/
def nextQ (m : Micro) (s : State) : Word :=
  match m.dest with
  | .q => aluF m s
  | .none => s.q
  | .ba => s.q
  | .b => s.q
  | .doubleRight => shiftRight1 (endsOf m s).qIn s.q
  | .singleRight => s.q
  | .doubleLeft => shiftLeft1 s.q (endsOf m s).qIn
  | .singleLeft => s.q

/-- The general registers after the cycle. -/
def nextR (m : Micro) (s : State) : Vector Word (2 ^ 4) :=
  match writeR m s with
  | some v => wr s.r m.rB v
  | none => s.r

/-! ### Branch and dispatch bits (44_y_branch.md R270 to R285) -/

/-- Page-cross of this cycle (42_memory_staging.md R233). -/
def pageCrossNow (m : Micro) (s : State) : Bool :=
  addressLoadMode m s && xor (aluOut m s).flags.pageCarry (m.aF.code.getLsbD 0)

/-- Four bits, the first one bit 3. -/
def bits4 (b3 b2 b1 b0 : Bool) : Nibble :=
  BitVec.ofBool b3 ++ BitVec.ofBool b2 ++ BitVec.ofBool b1 ++ BitVec.ofBool b0

/-- Modifier bit value 1 if the condition holds. -/
def oneBit (c : Bool) : Nibble := bits4 false false false c

/-- The bits a branch or dispatch operation ORs into the modifier. -/
def branchBits (op : YBranch) (m : Micro) (s : State) : Nibble :=
  match op with
  | .negBr => oneBit (aluOut m s).flags.negative
  | .zeroBr => oneBit (aluOut m s).flags.zero
  | .nZeroBr => oneBit (!(aluOut m s).flags.zero)
  | .mesaIntBr => oneBit s.mint
  | .pgCarryBr => oneBit (aluOut m s).flags.pageCarry
  | .carryBr => oneBit (aluOut m s).flags.carryOut
  | .xRefBr => oneBit ((xBus m s).getLsbD 4)
  | .nibCarryBr => oneBit (aluOut m s).flags.nibbleCarry
  | .xDisp => (xBus m s).extractLsb' 0 4
  | .yDisp => (yBus m s).extractLsb' 0 4
  | .xc2npcDisp => bits4 ((xBus m s).getLsbD 3) ((xBus m s).getLsbD 2) (decide (s.cycle = .c2)) (!s.pc16)
  | .yIODisp => bits4 ((yBus m s).getLsbD 3) ((yBus m s).getLsbD 2) (s.inputs.ioDisp.getLsbD 1)
      (s.inputs.ioDisp.getLsbD 0)
  | .xwdDisp => bits4 false false ((xBus m s).getLsbD 6) ((xBus m s).getLsbD 5)
  | .xhDisp => bits4 false false ((xBus m s).getLsbD 11) ((xBus m s).getLsbD 15)
  | .xlDisp => bits4 false false ((xBus m s).getLsbD 7) ((xBus m s).getLsbD 0)
  | .pgCrOvDisp => bits4 false false (pageCrossNow m s || s.pageCrossLatch) (aluOut m s).flags.overflow

end Sys2Proof.Machine
end

