-- ==== Sys2Proof/Machine/Cycle.lean ====
section
/-! DEFINITION. One cycle of the CORE on a microinstruction (49_cycle_click_tasks.md R372 to R374) and the click step (R380 to
R386). Every function of `m` and `s` reads the state at the start of the cycle; `commit` lands all register writes together;
the raises follow; then the cycle counter advances. -/

namespace Sys2Proof.Machine

/-! ### Next address and modifier (48_next_address.md) -/

/-- `base = INIA | NIAX` (R350). -/
def baseAddr (m : Micro) (s : State) : MAddr := m.inia ||| (0#8 ++ s.niax)

/-- `NIA`, by the merge rule in force (R351 to R354): a pending error trap forces the plain rule. -/
def nextAddr (m : Micro) (s : State) : MAddr :=
  if 0 < s.trapCount then baseAddr m s
  else
    match s.pendKind with
    | .plain => baseAddr m s
    | .ibDisp b =>
      (baseAddr m s).extractLsb' 8 4 ++ b.extractLsb' 4 4 ++ ((baseAddr m s).extractLsb' 0 4 ||| b.extractLsb' 0 4)
    | .refill e mi => (m.inia &&& s.params.refillKeep) ||| s.params.refillTarget e mi

/-- The dispatch-indicator bit `NIA[4]` (R355). -/
def isReturn (m : Micro) (s : State) : Bool := (nextAddr m s).getLsbD 4

/-- The link return's contribution to the modifier (R357). -/
def linkBits (m : Micro) (s : State) : Nibble :=
  match m.linkIndex with
  | some i => if isReturn m s then rd s.link i else 0
  | none => 0

/-- The link registers after the cycle (R356). -/
def nextLink (m : Micro) (s : State) : Vector Nibble (2 ^ 3) :=
  match m.linkIndex with
  | some i => if isReturn m s then s.link else wr s.link i ((nextAddr m s).extractLsb' 0 4)
  | none => s.link

/-- The Y plane's contribution to the modifier (44_y_branch.md R270 to R285). -/
def yBits (m : Micro) (s : State) : Nibble :=
  match m.branch? with
  | some op => branchBits op m s
  | none => 0

/-- The page-cross contribution (42_memory_staging.md R233). -/
def pageCrossBits (m : Micro) (s : State) : Nibble := if pageCrossNow m s then 2 else 0

/-- `NIAX_out`: every contributor ORed (44_y_branch.md R287). -/
def niaxOut (m : Micro) (s : State) : Nibble := yBits m s ||| pageCrossBits m s ||| linkBits m s

/-! ### Instruction buffer (46_ib.md R315 to R320) -/

/-- `dispatchPerformed` (R316). -/
def dispatchPerformed (m : Micro) (s : State) : Bool :=
  m.ibDispRequest && (decide (s.ibPtr = .full) || m.alwaysDisp)

/-- `refillTaken` (R316). -/
def refillTaken (m : Micro) (s : State) : Bool := m.ibDispRequest && !dispatchPerformed m s

/-- `consumeReq` (R315). -/
def consumeReq (m : Micro) (s : State) : Bool := m.peekAdvances || dispatchPerformed m s

/-- The buffer after the cycle: at most one load or one consume step. -/
def nextIb (m : Micro) (s : State) : IbData :=
  if m.ibLoad then s.ib.load (xBus m s)
  else if consumeReq m s then s.ib.consume
  else s.ib

/-- `pendKind_out` (R317, R318, 48_next_address.md R358). -/
def pendKindOut (m : Micro) (s : State) : PendKind :=
  if dispatchPerformed m s then .ibDisp s.ibFront
  else if refillTaken m s then .refill (decide (s.ibPtr = .empty)) s.mint
  else .plain

/-- A peek form on an Empty buffer (41_bus_input.md R209). -/
def peekEmpty (m : Micro) (s : State) : Bool := m.peeks && decide (s.ibPtr = .empty)

/-! ### Stack (47_stack.md R333 to R343) -/

/-- The pointer after the cycle: the direct load, else the delta of R333, modulo 16. -/
def nextStackP (m : Micro) (s : State) : Nibble :=
  if m.loadStackP then (yBus m s).extractLsb' 0 4
  else s.stackP + (if m.pushes then 1 else 0) - (if m.pops then 1 else 0)

/-- One of the tests of R334 to R336 on the old pointer raises. -/
def stackRaise (m : Micro) (s : State) : Bool :=
  (m.testOverflow && decide (s.stackP = 15)) || (m.testUnderflow && decide (s.stackP = 0))
    || (m.testDoubleUnderflow && decide (s.stackP.toNat ≤ 1))

/-- The SU file after the cycle (R340). -/
def nextSu (m : Micro) (s : State) : Vector Word (2 ^ 8) :=
  if m.suWrite then wr s.su (suAddr m s) (yBus m s) else s.su

/-! ### The other register writes -/

/-- RH after the cycle: `RH<-` (41_bus_input.md R218). -/
def nextRh (m : Micro) (s : State) : Vector Byte (2 ^ 4) :=
  if m.x = .rhLoad then wr s.rh m.rB ((xBus m s).extractLsb' 0 8) else s.rh

/-- `ExitKernel` takes effect in cycle 1 only (43_y_control.md R250). -/
def exitNow (m : Micro) (s : State) : Bool := m.exitKernel && decide (s.cycle = .c1)

/-- The wake flags after the cycle: `ExitKernel` clears the Kernel's, `EnterKernel` wakes it (R250, R251). -/
def nextWake (m : Micro) (s : State) : Vector Bool (2 ^ 3) :=
  if exitNow m s then wr s.wake (Task.id .kernel) false
  else if m.enterKernel then wr s.wake (Task.id .kernel) true
  else s.wake

/-- The macro-interrupt bit after the cycle (R252, R254). -/
def nextMint (m : Micro) (s : State) : Bool :=
  if m.clrIntErr then false else if m.yNormIs .mesaIntRq then true else s.mint

/-! ### Events (20_memory.md R70), in step order (49_cycle_click_tasks.md R372) -/

/-- Step 2: the two strobes (41_bus_input.md R201, R204). -/
def strobeEvents (m : Micro) : List Event :=
  match m.input? with
  | some .kStrobe => [.deviceStrobe 4]
  | some .eStrobe => [.deviceStrobe 7]
  | _ => []

/-- Step 4: memory staging of cycles 1 and 2 (42_memory_staging.md R231, R234, R235). -/
def memEvents (m : Micro) (s : State) : List Event :=
  if m.mem then
    match s.cycle with
    | .c1 => [.loadAddressRegister (if m.mapLoad then .mapped else .physical) (rhB m s ++ yBus m s)]
    | .c2 => if s.pageCrossLatch || s.ibEmptyLatch then [] else [.loadDataRegister (yBus m s)]
    | .c3 => []
  else []

/-- Step 5, Y plane: the device write, the request clears, the refresh strobe (45_y_devout.md R290, 43_y_control.md R257, R260
to R262). -/
def yEvents (m : Micro) (s : State) : List Event :=
  match m.planes.y? with
  | some (.out port) => [.deviceWrite port (yBus m s)]
  | some (.norm .clrDPRq) => [.clearRequest .display]
  | some (.norm .clrIOPRq) => [.clearRequest .iop]
  | some (.norm .clrKFlags) => [.clearRequest .diskFlags]
  | some (.norm .refresh) => [.refresh]
  | _ => []

/-- Step 5, Z plane: the refresh strobe, one event with the Y plane's (R264). -/
def zEvents (m : Micro) : List Event :=
  if m.zNormIs .refresh && !m.yNormIs .refresh then [.refresh] else []

/-- The events of the cycle, in order. -/
def cycleEvents (m : Micro) (s : State) : List Event := strobeEvents m ++ memEvents m s ++ yEvents m s ++ zEvents m

/-! ### Commit and raises (R372 step 10) -/

/-- All register writes of the cycle, landing together. -/
def commit (m : Micro) (s : State) : State :=
  { s with
    r := nextR m s
    q := nextQ m s
    flags := (aluOut m s).flags
    su := nextSu m s
    rh := nextRh m s
    link := nextLink m s
    stackP := nextStackP m s
    pc16 := if m.cinToggle then !s.pc16 else s.pc16
    ibFront := (nextIb m s).front
    ibPair := (nextIb m s).pair
    ibPtr := (nextIb m s).ptr
    tpc := wr s.tpc s.curTask.id (nextAddr m s)
    wake := nextWake m s
    errSet := if m.clrIntErr then ErrSet.empty else s.errSet
    mint := nextMint m s
    niax := niaxOut m s
    pendKind := pendKindOut m s
    pageCrossLatch := s.pageCrossLatch || pageCrossNow m s
    ibEmptyLatch := s.ibEmptyLatch || (peekEmpty m s && decide (s.cycle = .c1))
    kernelExit := s.kernelExit || exitNow m s
    waiting := s.waiting && !m.enterKernel
    events := s.events ++ cycleEvents m s }

/-- An invalid data-register read in cycle 3 (42_memory_staging.md R236, R237). -/
def memRaise (m : Micro) (s : State) : Bool := m.mem && decide (s.cycle = .c3) && !(dataRead s).valid

/-- A peek or a forced dispatch on an Empty buffer (46_ib.md R320). -/
def ibRaise (m : Micro) (s : State) : Bool := (m.peeks || m.alwaysDisp) && decide (s.ibPtr = .empty)

/-- The causes raised in the cycle, ascending (60_exceptions.md R401, R407). -/
def cycleRaises (m : Micro) (s : State) : List Cause :=
  (if memRaise m s then [.memoryFault] else []) ++ (if stackRaise m s then [.stackOverUnderflow] else [])
    ++ (if ibRaise m s then [.ibEmpty] else [])

/-- Raise causes in order. -/
def raiseAll : List Cause → State → State
  | [], s => s
  | c :: rest, s => raiseAll rest (raiseErr c s)

/-! ### The click step (R380 to R386) -/

/-- Clear the two latches (R380). -/
def clearLatches (s : State) : State := { s with pageCrossLatch := false, ibEmptyLatch := false }

/-- The task a click phase maps to (R383). -/
def ClickSlot.task (k : ClickSlot) (displayEnabled : Bool) : Task :=
  match k with
  | .ethernet => .ethernet
  | .disk => .disk
  | .iop => .iop
  | .displayOrRefresh => if displayEnabled then .display else .refresh

/-- `CLICK_TASK(click, env.DisplayEnabled())` (R383). -/
def candidate (s : State) : Task := ClickSlot.task s.params.clickMap[s.click] s.inputs.displayEnabled

/-- The switch rule (R382): Kernel if woken, else the candidate if woken, else the Emulator (R386). -/
def switchRule (s : State) : Task :=
  if rd s.wake (Task.id .kernel) then .kernel
  else if rd s.wake (candidate s).id then candidate s
  else .emulator

/-- The Kernel keeps the processor (R381). -/
def kernelRetained (s : State) : Bool := decide (s.curTask = .kernel) && !s.kernelExit

/-- The task of the next click (R381, R382). -/
def nextTask (s : State) : Task := if kernelRetained s then .kernel else switchRule s

/-- The switch action (R384): the modifier is saved and restored, a pending dispatch is lost. -/
def switchTo (t : Task) (s : State) : State :=
  if t = s.curTask then s
  else { s with tc := wr s.tc s.curTask.id s.niax, niax := rd s.tc t.id, pendKind := .plain, curTask := t }

/-- Choose the task of the next click; the exit signal is consumed (R381 to R384). -/
def scheduleNext (s : State) : State := switchTo (nextTask s) { s with kernelExit := false }

/-- The click index advances modulo 5 (R380, 10_state.md R36). -/
def advanceClick (s : State) : State := { s with click := s.click + 1 }

/-- The click step (R380 to R384), in order. -/
def clickStep (s : State) : State := scheduleNext (advanceClick (trapCountdown (clearLatches s)))

/-- The cycle counter advances; after cycle 3 it wraps and the click step runs (R374). -/
def advanceCycle (s : State) : State :=
  match s.cycle with
  | .c1 => { s with cycle := .c2 }
  | .c2 => { s with cycle := .c3 }
  | .c3 => clickStep { s with cycle := .c1 }

/-! ### The cycle -/

/-- The state after the cycle. -/
def cycleNext (m : Micro) (s : State) : State := advanceCycle (raiseAll (cycleRaises m s) (commit m s))

/-- The instruction-buffer loads to which the document gives no effect (46_ib.md R313, 93_implementation_defined.md U7). -/
def ibLoadRefusal (m : Micro) (s : State) : Option Refusal :=
  if m.ibLoad then
    if m.alwaysDisp || m.peekAdvances then some .ibLoadWithConsume
    else if s.ibPtr.hasRoom then none
    else some .ibLoadWithoutRoom
  else none

/-- One cycle of the microinstruction: the whole of R372 to R374. -/
def runCycle (m : Micro) (s : State) : Host.Outcome State Fault Refusal :=
  match ibLoadRefusal m s with
  | some r => .refused r
  | none => .next (cycleNext m s)

end Sys2Proof.Machine
end

