-- ==== Sys2Proof/Machine/AluFunction.lean ====
section
/-! DEFINITION. The ALU functions, field `aF` (40_alu.md R149 to R167): the meaning of each row, one definition per row. Each codes its own row
into the microinstruction and runs the whole cycle on it; the docstring names the operations of the cycle that carry the row's
own effect (notes/assumptions/1.md). -/

namespace Sys2Proof.Machine

/-- `aF=ADD`, R151: ALU function ADD (`aluFn`). -/
def execFnADD (m : Micro) (s : State) : Host.Outcome State Fault Refusal :=
  runCycle (m.withFn .add) s

/-- `aF=SUBR`, R152: ALU function SUBR (`aluFn`). -/
def execFnSUBR (m : Micro) (s : State) : Host.Outcome State Fault Refusal :=
  runCycle (m.withFn .subr) s

/-- `aF=SUBS`, R153: ALU function SUBS (`aluFn`). -/
def execFnSUBS (m : Micro) (s : State) : Host.Outcome State Fault Refusal :=
  runCycle (m.withFn .subs) s

/-- `aF=OR`, R154: ALU function OR (`aluFn`). -/
def execFnOR (m : Micro) (s : State) : Host.Outcome State Fault Refusal :=
  runCycle (m.withFn .or) s

/-- `aF=AND`, R155: ALU function AND (`aluFn`). -/
def execFnAND (m : Micro) (s : State) : Host.Outcome State Fault Refusal :=
  runCycle (m.withFn .and) s

/-- `aF=NOTRS`, R156: ALU function NOTRS (`aluFn`). -/
def execFnNOTRS (m : Micro) (s : State) : Host.Outcome State Fault Refusal :=
  runCycle (m.withFn .notrs) s

/-- `aF=XOR`, R157: ALU function XOR (`aluFn`). -/
def execFnXOR (m : Micro) (s : State) : Host.Outcome State Fault Refusal :=
  runCycle (m.withFn .xor) s

/-- `aF=XNOR`, R158: ALU function XNOR (`aluFn`). -/
def execFnXNOR (m : Micro) (s : State) : Host.Outcome State Fault Refusal :=
  runCycle (m.withFn .xnor) s

end Sys2Proof.Machine
end

