-- ==== Sys2Proof/Machine/AluSource.lean ====
section
/-! DEFINITION. The source pairs of the ALU, field `aS` (40_alu.md R140 to R147): the meaning of each row, one definition per row. Each codes its own row
into the microinstruction and runs the whole cycle on it; the docstring names the operations of the cycle that carry the row's
own effect (notes/assumptions/1.md). -/

namespace Sys2Proof.Machine

/-- `aS=AQ`, R140: source pair AQ (`srcPair`). -/
def execSrcAQ (m : Micro) (s : State) : Host.Outcome State Fault Refusal :=
  runCycle (m.withSrc .aq) s

/-- `aS=AB`, R141: source pair AB (`srcPair`). -/
def execSrcAB (m : Micro) (s : State) : Host.Outcome State Fault Refusal :=
  runCycle (m.withSrc .ab) s

/-- `aS=0Q`, R142: source pair 0Q (`srcPair`). -/
def execSrc0Q (m : Micro) (s : State) : Host.Outcome State Fault Refusal :=
  runCycle (m.withSrc .zq) s

/-- `aS=0B`, R143: source pair 0B (`srcPair`). -/
def execSrc0B (m : Micro) (s : State) : Host.Outcome State Fault Refusal :=
  runCycle (m.withSrc .zb) s

/-- `aS=0A`, R144: source pair 0A (`srcPair`). -/
def execSrc0A (m : Micro) (s : State) : Host.Outcome State Fault Refusal :=
  runCycle (m.withSrc .za) s

/-- `aS=DA`, R145: source pair DA (`srcPair`). -/
def execSrcDA (m : Micro) (s : State) : Host.Outcome State Fault Refusal :=
  runCycle (m.withSrc .da) s

/-- `aS=DQ`, R146: source pair DQ (`srcPair`). -/
def execSrcDQ (m : Micro) (s : State) : Host.Outcome State Fault Refusal :=
  runCycle (m.withSrc .dq) s

/-- `aS=D0`, R147: source pair D0 (`srcPair`). -/
def execSrcD0 (m : Micro) (s : State) : Host.Outcome State Fault Refusal :=
  runCycle (m.withSrc .dz) s

end Sys2Proof.Machine
end

