-- ==== Sys2Proof/Machine/MemStaging.lean ====
section
/-! DEFINITION. Memory staging, field `mem` (42_memory_staging.md R230 to R241): the meaning of each row, one definition per row. Each codes its own row
into the microinstruction and runs the whole cycle on it; the docstring names the operations of the cycle that carry the row's
own effect (notes/assumptions/1.md). -/

namespace Sys2Proof.Machine

/-- `mem (executed in cycle 1)`, R231: address-register load (`addressLoadMode`, `memEvents`, `pageCrossNow` in cycle 1). -/
def execMemCycle1 (m : Micro) (s : State) : Host.Outcome State Fault Refusal :=
  runCycle (m.withMem) s

/-- `mem (executed in cycle 2)`, R234: data-register load (`memEvents` in cycle 2). -/
def execMemCycle2 (m : Micro) (s : State) : Host.Outcome State Fault Refusal :=
  runCycle (m.withMem) s

/-- `mem (executed in cycle 3)`, R236: data-register read (`memSource`, `memRaise` in cycle 3). -/
def execMemCycle3 (m : Micro) (s : State) : Host.Outcome State Fault Refusal :=
  runCycle (m.withMem) s

end Sys2Proof.Machine
end

