-- ==== Sys2Proof/Machine/SuFile.lean ====
section
/-! DEFINITION. The SU file, field `enSU` (41_bus_input.md R215, R216; 47_stack.md R331, R340): the meaning of each row, one definition per row. Each codes its own row
into the microinstruction and runs the whole cycle on it; the docstring names the operations of the cycle that carry the row's
own effect (notes/assumptions/1.md). -/

namespace Sys2Proof.Machine

/-- `SU<-Y (enSU, aS=AQ)`, R340: SU write from the Y bus, source pair AQ (`nextSu`). -/
def execSuWriteAQ (m : Micro) (s : State) : Host.Outcome State Fault Refusal :=
  runCycle (m.withSu .aq) s

/-- `SU<-Y (enSU, aS=AB)`, R340: SU write from the Y bus, source pair AB (`nextSu`). -/
def execSuWriteAB (m : Micro) (s : State) : Host.Outcome State Fault Refusal :=
  runCycle (m.withSu .ab) s

/-- `SU<-Y (enSU, aS=0Q)`, R340: SU write from the Y bus, source pair 0Q (`nextSu`). -/
def execSuWrite0Q (m : Micro) (s : State) : Host.Outcome State Fault Refusal :=
  runCycle (m.withSu .zq) s

/-- `SU<-Y (enSU, aS=0B)`, R340: SU write from the Y bus, source pair 0B (`nextSu`). -/
def execSuWrite0B (m : Micro) (s : State) : Host.Outcome State Fault Refusal :=
  runCycle (m.withSu .zb) s

/-- `SU<-Y (enSU, aS=0A)`, R340: SU write from the Y bus, source pair 0A (`nextSu`). -/
def execSuWrite0A (m : Micro) (s : State) : Host.Outcome State Fault Refusal :=
  runCycle (m.withSu .za) s

/-- `X<-SU (enSU, aS=DA)`, R215: SU read onto the X bus, source pair DA (`suSource`). -/
def execSuReadDA (m : Micro) (s : State) : Host.Outcome State Fault Refusal :=
  runCycle (m.withSu .da) s

/-- `X<-SU (enSU, aS=DQ)`, R215: SU read onto the X bus, source pair DQ (`suSource`). -/
def execSuReadDQ (m : Micro) (s : State) : Host.Outcome State Fault Refusal :=
  runCycle (m.withSu .dq) s

/-- `X<-SU (enSU, aS=D0)`, R215: SU read onto the X bus, source pair D0 (`suSource`). -/
def execSuReadD0 (m : Micro) (s : State) : Host.Outcome State Fault Refusal :=
  runCycle (m.withSu .dz) s

end Sys2Proof.Machine
end

