-- ==== Sys2Proof/Machine/WriteBack.lean ====
section
/-! DEFINITION. The write-back codes, field `aD` with shift and cycle (40_alu.md R170 to R179), the parity bit (30_encoding.md R95) and the raw carry-in (40_alu.md R180): the meaning of each row, one definition per row. Each codes its own row
into the microinstruction and runs the whole cycle on it; the docstring names the operations of the cycle that carry the row's
own effect (notes/assumptions/1.md). -/

namespace Sys2Proof.Machine

/-- `aD=Q (dest=0)`, R171: write Q only (`writeR`, `nextQ`, `yBus`). -/
def execDest0Q (m : Micro) (s : State) : Host.Outcome State Fault Refusal :=
  runCycle (m.withPlainDest .q) s

/-- `aD=NONE (dest=1)`, R172: write no register (`writeR`, `nextQ`, `yBus`). -/
def execDest1NONE (m : Micro) (s : State) : Host.Outcome State Fault Refusal :=
  runCycle (m.withPlainDest .none) s

/-- `aD=BA (dest=2)`, R173: write `R[rB]`, drive the old `R[rA]` (`writeR`, `nextQ`, `yBus`). -/
def execDest2BA (m : Micro) (s : State) : Host.Outcome State Fault Refusal :=
  runCycle (m.withPlainDest .ba) s

/-- `aD=B (dest=3)`, R174: write `R[rB]`, drive the result (`writeR`, `nextQ`, `yBus`). -/
def execDest3B (m : Micro) (s : State) : Host.Outcome State Fault Refusal :=
  runCycle (m.withPlainDest .b) s

/-- `dest=4 (aD=0 with X:shift or X:cycle)`, R175: double-word right shift or rotate (`writeR`, `nextQ`, `yBus`). -/
def execDest4DoubleRight (isCycle : Bool) (m : Micro) (s : State) : Host.Outcome State Fault Refusal :=
  runCycle (m.withShiftDest .q isCycle) s

/-- `dest=5 (aD=1 with X:shift or X:cycle)`, R176: single-word right shift or rotate (`writeR`, `nextQ`, `yBus`). -/
def execDest5SingleRight (isCycle : Bool) (m : Micro) (s : State) : Host.Outcome State Fault Refusal :=
  runCycle (m.withShiftDest .none isCycle) s

/-- `dest=6 (aD=2 with X:shift or X:cycle)`, R177: double-word left shift or rotate (`writeR`, `nextQ`, `yBus`). -/
def execDest6DoubleLeft (isCycle : Bool) (m : Micro) (s : State) : Host.Outcome State Fault Refusal :=
  runCycle (m.withShiftDest .ba isCycle) s

/-- `dest=7 (aD=3 with X:shift or X:cycle)`, R178: single-word left shift or rotate (`writeR`, `nextQ`, `yBus`). -/
def execDest7SingleLeft (isCycle : Bool) (m : Micro) (s : State) : Host.Outcome State Fault Refusal :=
  runCycle (m.withShiftDest .b isCycle) s

/-- `EP`, R95: parity bit 1, carried and never interpreted (nothing reads it). -/
def execEp (m : Micro) (s : State) : Host.Outcome State Fault Refusal :=
  runCycle (m.withEp true) s

/-- `Cin=1`, R180: raw carry-in 1 (`effCin`). -/
def execCin1 (m : Micro) (s : State) : Host.Outcome State Fault Refusal :=
  runCycle (m.withCin true) s

/-- `Cin=0`, R180: raw carry-in 0 (`effCin`). -/
def execCin0 (m : Micro) (s : State) : Host.Outcome State Fault Refusal :=
  runCycle (m.withCin false) s

end Sys2Proof.Machine
end

