-- ==== Sys2Proof/Machine/XPlane.lean ====
section
/-! DEFINITION. The X plane, field `fX` (30_encoding.md R105): the meaning of each row, one definition per row. Each codes its own row
into the microinstruction and runs the whole cycle on it; the docstring names the operations of the cycle that carry the row's
own effect (notes/assumptions/1.md). -/

namespace Sys2Proof.Machine

/-- `X:Link0`, R359: call or return through `Link[0]` (`nextLink`, `linkBits`). -/
def execXLink0 (m : Micro) (s : State) : Host.Outcome State Fault Refusal :=
  runCycle (m.withX (.link 0)) s

/-- `X:Link1`, R360: call or return through `Link[1]` (`nextLink`, `linkBits`). -/
def execXLink1 (m : Micro) (s : State) : Host.Outcome State Fault Refusal :=
  runCycle (m.withX (.link 1)) s

/-- `X:Link2`, R361: call or return through `Link[2]` (`nextLink`, `linkBits`). -/
def execXLink2 (m : Micro) (s : State) : Host.Outcome State Fault Refusal :=
  runCycle (m.withX (.link 2)) s

/-- `X:Link3`, R362: call or return through `Link[3]` (`nextLink`, `linkBits`). -/
def execXLink3 (m : Micro) (s : State) : Host.Outcome State Fault Refusal :=
  runCycle (m.withX (.link 3)) s

/-- `X:Link4`, R363: call or return through `Link[4]` (`nextLink`, `linkBits`). -/
def execXLink4 (m : Micro) (s : State) : Host.Outcome State Fault Refusal :=
  runCycle (m.withX (.link 4)) s

/-- `X:Link5`, R364: call or return through `Link[5]` (`nextLink`, `linkBits`). -/
def execXLink5 (m : Micro) (s : State) : Host.Outcome State Fault Refusal :=
  runCycle (m.withX (.link 5)) s

/-- `X:Link6`, R365: call or return through `Link[6]` (`nextLink`, `linkBits`). -/
def execXLink6 (m : Micro) (s : State) : Host.Outcome State Fault Refusal :=
  runCycle (m.withX (.link 6)) s

/-- `X:Link7`, R366: call or return through `Link[7]` (`nextLink`, `linkBits`). -/
def execXLink7 (m : Micro) (s : State) : Host.Outcome State Fault Refusal :=
  runCycle (m.withX (.link 7)) s

/-- `X:Noop`, R111: X plane idle (no effect of its own). -/
def execXNoop (m : Micro) (s : State) : Host.Outcome State Fault Refusal :=
  runCycle (m.withX .noop) s

/-- `X:RH<-`, R218: `RH[rB] <- X[7:0]` (`nextRh`). -/
def execXRHLoad (m : Micro) (s : State) : Host.Outcome State Fault Refusal :=
  runCycle (m.withX .rhLoad) s

/-- `X:shift`, R185: write-back code 4 to 7, shift (`Micro.dest`, `shiftEnds`). -/
def execXShift (m : Micro) (s : State) : Host.Outcome State Fault Refusal :=
  runCycle (m.withX .shift) s

/-- `X:cycle`, R186: write-back code 4 to 7, rotate (`Micro.dest`, `shiftEnds`). -/
def execXCycle (m : Micro) (s : State) : Host.Outcome State Fault Refusal :=
  runCycle (m.withX .cycle) s

/-- `X:Cin<-pc16`, R183: carry-in from `pc16` (`effCin`, `commit`). -/
def execXCinPc16 (m : Micro) (s : State) : Host.Outcome State Fault Refusal :=
  runCycle (m.withX .cinPc16) s

/-- `X:reserved`, R112: reserved, acts as Noop (no effect of its own). -/
def execXReserved (m : Micro) (s : State) : Host.Outcome State Fault Refusal :=
  runCycle (m.withX .reserved) s

/-- `X:pop`, R337: pop (`nextStackP`, `stackRaise`). -/
def execXPop (m : Micro) (s : State) : Host.Outcome State Fault Refusal :=
  runCycle (m.withX .pop) s

/-- `X:push`, R338: push (`nextStackP`, `stackRaise`). -/
def execXPush (m : Micro) (s : State) : Host.Outcome State Fault Refusal :=
  runCycle (m.withX .push) s

end Sys2Proof.Machine
end

