-- ==== Sys2Proof/Machine/YBranch.lean ====
section
/-! DEFINITION. The Y plane in DispBr mode (44_y_branch.md R270 to R288): the meaning of each row, one definition per row. Each codes its own row
into the microinstruction and runs the whole cycle on it; the docstring names the operations of the cycle that carry the row's
own effect (notes/assumptions/1.md). -/

namespace Sys2Proof.Machine

/-- `Y:NegBr`, R270: branch or dispatch NegBr (`branchBits`). -/
def execYNegBr (m : Micro) (s : State) : Host.Outcome State Fault Refusal :=
  runCycle (m.withY (.branch .negBr)) s

/-- `Y:ZeroBr`, R271: branch or dispatch ZeroBr (`branchBits`). -/
def execYZeroBr (m : Micro) (s : State) : Host.Outcome State Fault Refusal :=
  runCycle (m.withY (.branch .zeroBr)) s

/-- `Y:NZeroBr`, R272: branch or dispatch NZeroBr (`branchBits`). -/
def execYNZeroBr (m : Micro) (s : State) : Host.Outcome State Fault Refusal :=
  runCycle (m.withY (.branch .nZeroBr)) s

/-- `Y:MesaIntBr`, R273: branch or dispatch MesaIntBr (`branchBits`). -/
def execYMesaIntBr (m : Micro) (s : State) : Host.Outcome State Fault Refusal :=
  runCycle (m.withY (.branch .mesaIntBr)) s

/-- `Y:PgCarryBr`, R274: branch or dispatch PgCarryBr (`branchBits`). -/
def execYPgCarryBr (m : Micro) (s : State) : Host.Outcome State Fault Refusal :=
  runCycle (m.withY (.branch .pgCarryBr)) s

/-- `Y:CarryBr`, R275: branch or dispatch CarryBr (`branchBits`). -/
def execYCarryBr (m : Micro) (s : State) : Host.Outcome State Fault Refusal :=
  runCycle (m.withY (.branch .carryBr)) s

/-- `Y:XRefBr`, R276: branch or dispatch XRefBr (`branchBits`). -/
def execYXRefBr (m : Micro) (s : State) : Host.Outcome State Fault Refusal :=
  runCycle (m.withY (.branch .xRefBr)) s

/-- `Y:NibCarryBr`, R277: branch or dispatch NibCarryBr (`branchBits`). -/
def execYNibCarryBr (m : Micro) (s : State) : Host.Outcome State Fault Refusal :=
  runCycle (m.withY (.branch .nibCarryBr)) s

/-- `Y:XDisp`, R278: branch or dispatch XDisp (`branchBits`). -/
def execYXDisp (m : Micro) (s : State) : Host.Outcome State Fault Refusal :=
  runCycle (m.withY (.branch .xDisp)) s

/-- `Y:YDisp`, R279: branch or dispatch YDisp (`branchBits`). -/
def execYYDisp (m : Micro) (s : State) : Host.Outcome State Fault Refusal :=
  runCycle (m.withY (.branch .yDisp)) s

/-- `Y:XC2npcDisp`, R280: branch or dispatch XC2npcDisp (`branchBits`). -/
def execYXC2npcDisp (m : Micro) (s : State) : Host.Outcome State Fault Refusal :=
  runCycle (m.withY (.branch .xc2npcDisp)) s

/-- `Y:YIODisp`, R281: branch or dispatch YIODisp (`branchBits`). -/
def execYYIODisp (m : Micro) (s : State) : Host.Outcome State Fault Refusal :=
  runCycle (m.withY (.branch .yIODisp)) s

/-- `Y:XwdDisp`, R282: branch or dispatch XwdDisp (`branchBits`). -/
def execYXwdDisp (m : Micro) (s : State) : Host.Outcome State Fault Refusal :=
  runCycle (m.withY (.branch .xwdDisp)) s

/-- `Y:XHDisp`, R283: branch or dispatch XHDisp (`branchBits`). -/
def execYXHDisp (m : Micro) (s : State) : Host.Outcome State Fault Refusal :=
  runCycle (m.withY (.branch .xhDisp)) s

/-- `Y:XLDisp`, R284: branch or dispatch XLDisp (`branchBits`). -/
def execYXLDisp (m : Micro) (s : State) : Host.Outcome State Fault Refusal :=
  runCycle (m.withY (.branch .xlDisp)) s

/-- `Y:PgCrOvDisp`, R285: branch or dispatch PgCrOvDisp (`branchBits`). -/
def execYPgCrOvDisp (m : Micro) (s : State) : Host.Outcome State Fault Refusal :=
  runCycle (m.withY (.branch .pgCrOvDisp)) s

end Sys2Proof.Machine
end

