-- ==== Sys2Proof/Machine/YControl.lean ====
section
/-! DEFINITION. The Y plane in Norm mode (43_y_control.md R250 to R265): the meaning of each row, one definition per row. Each codes its own row
into the microinstruction and runs the whole cycle on it; the docstring names the operations of the cycle that carry the row's
own effect (notes/assumptions/1.md). -/

namespace Sys2Proof.Machine

/-- `Y:ExitKernel`, R250: signal the Kernel exit in cycle 1 (`exitNow`, `nextWake`). -/
def execYExitKernel (m : Micro) (s : State) : Host.Outcome State Fault Refusal :=
  runCycle (m.withY (.norm .exitKernel)) s

/-- `Y:EnterKernel`, R251: wake the Kernel (`nextWake`, `commit`). -/
def execYEnterKernel (m : Micro) (s : State) : Host.Outcome State Fault Refusal :=
  runCycle (m.withY (.norm .enterKernel)) s

/-- `Y:ClrIntErr`, R252: clear the error set and the macro interrupt (`commit`, `nextMint`). -/
def execYClrIntErr (m : Micro) (s : State) : Host.Outcome State Fault Refusal :=
  runCycle (m.withY (.norm .clrIntErr)) s

/-- `Y:IBDisp`, R253: request an instruction-buffer dispatch (`dispatchPerformed`, `refillTaken`, `pendKindOut`). -/
def execYIBDisp (m : Micro) (s : State) : Host.Outcome State Fault Refusal :=
  runCycle (m.withY (.norm .ibDisp)) s

/-- `Y:MesaIntRq`, R254: request a macro interrupt (`nextMint`). -/
def execYMesaIntRq (m : Micro) (s : State) : Host.Outcome State Fault Refusal :=
  runCycle (m.withY (.norm .mesaIntRq)) s

/-- `Y:stackP<-`, R255: `stackP <- Y[3:0]` (`nextStackP`). -/
def execYStackPLoad (m : Micro) (s : State) : Host.Outcome State Fault Refusal :=
  runCycle (m.withY (.norm .stackPLoad)) s

/-- `Y:IB<-`, R256: load the instruction buffer from X (`nextIb`, `ibLoadRefusal`). -/
def execYIBLoad (m : Micro) (s : State) : Host.Outcome State Fault Refusal :=
  runCycle (m.withY (.norm .ibLoad)) s

/-- `Y:reserved`, R112: reserved, acts as Noop (no effect of its own). -/
def execYReserved (m : Micro) (s : State) : Host.Outcome State Fault Refusal :=
  runCycle (m.withY (.norm .reserved)) s

/-- `Y:Noop`, R111: Y plane idle (no effect of its own). -/
def execYNoop (m : Micro) (s : State) : Host.Outcome State Fault Refusal :=
  runCycle (m.withY (.norm .noop)) s

/-- `Y:Map<-`, R259: mark the address load as mapped (`addressLoadMode`, `memEvents`). -/
def execYMap (m : Micro) (s : State) : Host.Outcome State Fault Refusal :=
  runCycle (m.withY (.norm .map)) s

/-- `Y:Refresh`, R257: refresh strobe (`yEvents`). -/
def execYRefresh (m : Micro) (s : State) : Host.Outcome State Fault Refusal :=
  runCycle (m.withY (.norm .refresh)) s

/-- `Y:push`, R258: push (`nextStackP`, `stackRaise`). -/
def execYPush (m : Micro) (s : State) : Host.Outcome State Fault Refusal :=
  runCycle (m.withY (.norm .push)) s

/-- `Y:ClrDPRq`, R260: clear the display request (`yEvents`). -/
def execYClrDPRq (m : Micro) (s : State) : Host.Outcome State Fault Refusal :=
  runCycle (m.withY (.norm .clrDPRq)) s

/-- `Y:ClrIOPRq`, R261: clear the IOP request (`yEvents`). -/
def execYClrIOPRq (m : Micro) (s : State) : Host.Outcome State Fault Refusal :=
  runCycle (m.withY (.norm .clrIOPRq)) s

/-- `Y:ClrKFlags`, R262: clear the disk flags (`yEvents`). -/
def execYClrKFlags (m : Micro) (s : State) : Host.Outcome State Fault Refusal :=
  runCycle (m.withY (.norm .clrKFlags)) s

/-- `Y:pop`, R263: pop (`nextStackP`, `stackRaise`). -/
def execYPop (m : Micro) (s : State) : Host.Outcome State Fault Refusal :=
  runCycle (m.withY (.norm .pop)) s

end Sys2Proof.Machine
end

