-- ==== Sys2Proof/Machine/YDevOut.lean ====
section
/-! DEFINITION. The Y plane in IOOut mode (45_y_devout.md R290 to R306) and in byte mode (41_bus_input.md R191): the meaning of each row, one definition per row. Each codes its own row
into the microinstruction and runs the whole cycle on it; the docstring names the operations of the cycle that carry the row's
own effect (notes/assumptions/1.md). -/

namespace Sys2Proof.Machine

/-- `Y:IOPOData<-`, R291: write Y to device port 0 (`yEvents`). -/
def execYIOPOData (m : Micro) (s : State) : Host.Outcome State Fault Refusal :=
  runCycle (m.withY (.out 0)) s

/-- `Y:IOPCtl<-`, R292: write Y to device port 1 (`yEvents`). -/
def execYIOPCtl (m : Micro) (s : State) : Host.Outcome State Fault Refusal :=
  runCycle (m.withY (.out 1)) s

/-- `Y:KOData<-`, R293: write Y to device port 2 (`yEvents`). -/
def execYKOData (m : Micro) (s : State) : Host.Outcome State Fault Refusal :=
  runCycle (m.withY (.out 2)) s

/-- `Y:KCtl<-`, R294: write Y to device port 3 (`yEvents`). -/
def execYKCtl (m : Micro) (s : State) : Host.Outcome State Fault Refusal :=
  runCycle (m.withY (.out 3)) s

/-- `Y:EOData<-`, R295: write Y to device port 4 (`yEvents`). -/
def execYEOData (m : Micro) (s : State) : Host.Outcome State Fault Refusal :=
  runCycle (m.withY (.out 4)) s

/-- `Y:EICtl<-`, R296: write Y to device port 5 (`yEvents`). -/
def execYEICtl (m : Micro) (s : State) : Host.Outcome State Fault Refusal :=
  runCycle (m.withY (.out 5)) s

/-- `Y:DCtlFifo<-`, R297: write Y to device port 6 (`yEvents`). -/
def execYDCtlFifo (m : Micro) (s : State) : Host.Outcome State Fault Refusal :=
  runCycle (m.withY (.out 6)) s

/-- `Y:DCtl<-`, R298: write Y to device port 7 (`yEvents`). -/
def execYDCtl (m : Micro) (s : State) : Host.Outcome State Fault Refusal :=
  runCycle (m.withY (.out 7)) s

/-- `Y:DBorder<-`, R299: write Y to device port 8 (`yEvents`). -/
def execYDBorder (m : Micro) (s : State) : Host.Outcome State Fault Refusal :=
  runCycle (m.withY (.out 8)) s

/-- `Y:PCtl<-`, R300: write Y to device port 9 (`yEvents`). -/
def execYPCtl (m : Micro) (s : State) : Host.Outcome State Fault Refusal :=
  runCycle (m.withY (.out 9)) s

/-- `Y:MCtl<-`, R301: write Y to device port 10 (`yEvents`). -/
def execYMCtl (m : Micro) (s : State) : Host.Outcome State Fault Refusal :=
  runCycle (m.withY (.out 10)) s

/-- `Y:Out11<-`, R302: write Y to device port 11 (`yEvents`). -/
def execYOut11 (m : Micro) (s : State) : Host.Outcome State Fault Refusal :=
  runCycle (m.withY (.out 11)) s

/-- `Y:EOCtl<-`, R303: write Y to device port 12 (`yEvents`). -/
def execYEOCtl (m : Micro) (s : State) : Host.Outcome State Fault Refusal :=
  runCycle (m.withY (.out 12)) s

/-- `Y:KCmd<-`, R304: write Y to device port 13 (`yEvents`). -/
def execYKCmd (m : Micro) (s : State) : Host.Outcome State Fault Refusal :=
  runCycle (m.withY (.out 13)) s

/-- `Y:Out14<-`, R305: write Y to device port 14 (`yEvents`). -/
def execYOut14 (m : Micro) (s : State) : Host.Outcome State Fault Refusal :=
  runCycle (m.withY (.out 14)) s

/-- `Y:POData<-`, R306: write Y to device port 15 (`yEvents`). -/
def execYPOData (m : Micro) (s : State) : Host.Outcome State Fault Refusal :=
  runCycle (m.withY (.out 15)) s

/-- `byte=0xNN`, R191: byte literal on the X bus (`constSource`). -/
def execByteLit (imm : BitVec 8) (m : Micro) (s : State) : Host.Outcome State Fault Refusal :=
  runCycle (m.withByte imm) s

end Sys2Proof.Machine
end

