-- ==== Sys2Proof/Machine/ZInput.lean ====
section
/-! DEFINITION. The Z plane in IOXIn mode (41_bus_input.md R193 to R212) and the next-address literal (48_next_address.md R350 to R358): the meaning of each row, one definition per row. Each codes its own row
into the microinstruction and runs the whole cycle on it; the docstring names the operations of the cycle that carry the row's
own effect (notes/assumptions/1.md). -/

namespace Sys2Proof.Machine

/-- `Z:<-EIData`, R197: device read 0 onto X (`inputValue`). -/
def execZEIData (m : Micro) (s : State) : Host.Outcome State Fault Refusal :=
  runCycle (m.withZ (.input .eiData)) s

/-- `Z:<-EStatus`, R198: device read 1 onto X (`inputValue`). -/
def execZEStatus (m : Micro) (s : State) : Host.Outcome State Fault Refusal :=
  runCycle (m.withZ (.input .eStatus)) s

/-- `Z:<-KIData`, R199: device read 2 onto X (`inputValue`). -/
def execZKIData (m : Micro) (s : State) : Host.Outcome State Fault Refusal :=
  runCycle (m.withZ (.input .kiData)) s

/-- `Z:<-KStatus`, R200: device read 3 onto X (`inputValue`). -/
def execZKStatus (m : Micro) (s : State) : Host.Outcome State Fault Refusal :=
  runCycle (m.withZ (.input .kStatus)) s

/-- `Z:KStrobe`, R201: device strobe 4 (`strobeEvents`). -/
def execZKStrobe (m : Micro) (s : State) : Host.Outcome State Fault Refusal :=
  runCycle (m.withZ (.input .kStrobe)) s

/-- `Z:<-MStatus`, R202: device read 5 onto X (`inputValue`). -/
def execZMStatus (m : Micro) (s : State) : Host.Outcome State Fault Refusal :=
  runCycle (m.withZ (.input .mStatus)) s

/-- `Z:<-KTest`, R203: device read 6 onto X (`inputValue`). -/
def execZKTest (m : Micro) (s : State) : Host.Outcome State Fault Refusal :=
  runCycle (m.withZ (.input .kTest)) s

/-- `Z:EStrobe`, R204: device strobe 7 (`strobeEvents`). -/
def execZEStrobe (m : Micro) (s : State) : Host.Outcome State Fault Refusal :=
  runCycle (m.withZ (.input .eStrobe)) s

/-- `Z:<-IOPIData`, R205: device read 8 onto X (`inputValue`). -/
def execZIOPIData (m : Micro) (s : State) : Host.Outcome State Fault Refusal :=
  runCycle (m.withZ (.input .iopIData)) s

/-- `Z:<-IOPStatus`, R206: device read 9 onto X (`inputValue`). -/
def execZIOPStatus (m : Micro) (s : State) : Host.Outcome State Fault Refusal :=
  runCycle (m.withZ (.input .iopStatus)) s

/-- `Z:<-ErrIBStk`, R207: error, buffer and stack status onto X (`inputValue`). -/
def execZErrIBStk (m : Micro) (s : State) : Host.Outcome State Fault Refusal :=
  runCycle (m.withZ (.input .errIBStk)) s

/-- `Z:<-RH`, R208: `RH[rB]` onto X (`inputValue`). -/
def execZRH (m : Micro) (s : State) : Host.Outcome State Fault Refusal :=
  runCycle (m.withZ (.input .rh)) s

/-- `Z:<-ibNA`, R209: front byte onto X, no advance (`inputValue`, `peekEmpty`, `ibRaise`). -/
def execZIbNA (m : Micro) (s : State) : Host.Outcome State Fault Refusal :=
  runCycle (m.withZ (.input .ibNA)) s

/-- `Z:<-ib`, R210: front byte onto X, advance (`inputValue`, `consumeReq`, `peekEmpty`, `ibRaise`). -/
def execZIb (m : Micro) (s : State) : Host.Outcome State Fault Refusal :=
  runCycle (m.withZ (.input .ib)) s

/-- `Z:<-ibLow`, R211: low nibble of the front byte onto X, advance (`inputValue`, `consumeReq`, `peekEmpty`, `ibRaise`). -/
def execZIbLow (m : Micro) (s : State) : Host.Outcome State Fault Refusal :=
  runCycle (m.withZ (.input .ibLow)) s

/-- `Z:<-ibHigh`, R212: high nibble of the front byte onto X, no advance (`inputValue`, `peekEmpty`, `ibRaise`). -/
def execZIbHigh (m : Micro) (s : State) : Host.Outcome State Fault Refusal :=
  runCycle (m.withZ (.input .ibHigh)) s

/-- `goto=0xNNN`, R351: next-address literal (`baseAddr`, `nextAddr`). -/
def execGotoInia (inia : BitVec 12) (m : Micro) (s : State) : Host.Outcome State Fault Refusal :=
  runCycle (m.withInia inia) s

end Sys2Proof.Machine
end

