-- ==== Sys2Proof/Machine/ZPlane.lean ====
section
/-! DEFINITION. The Z plane in Norm mode, the nibble literal and U-address mode (30_encoding.md R109, R104, R131): the meaning of each row, one definition per row. Each codes its own row
into the microinstruction and runs the whole cycle on it; the docstring names the operations of the cycle that carry the row's
own effect (notes/assumptions/1.md). -/

namespace Sys2Proof.Machine

/-- `Z:Refresh`, R264: refresh strobe (`zEvents`). -/
def execZRefresh (m : Micro) (s : State) : Host.Outcome State Fault Refusal :=
  runCycle (m.withZ (.norm .refresh)) s

/-- `Z:reserved (fZ=0x1)`, R112: reserved, acts as Noop (no effect of its own). -/
def execZReserved1 (m : Micro) (s : State) : Host.Outcome State Fault Refusal :=
  runCycle (m.withZ (.norm .reserved1)) s

/-- `Z:reserved (fZ=0x2)`, R112: reserved, acts as Noop (no effect of its own). -/
def execZReserved2 (m : Micro) (s : State) : Host.Outcome State Fault Refusal :=
  runCycle (m.withZ (.norm .reserved2)) s

/-- `Z:Cin<-pc16`, R184: carry-in from `pc16` if the raw carry bit is 1 (`effCin`, `commit`). -/
def execZCinPc16 (m : Micro) (s : State) : Host.Outcome State Fault Refusal :=
  runCycle (m.withZ (.norm .cinPc16)) s

/-- `Z:reserved (fZ=0x4)`, R112: reserved, acts as Noop (no effect of its own). -/
def execZReserved4 (m : Micro) (s : State) : Host.Outcome State Fault Refusal :=
  runCycle (m.withZ (.norm .reserved4)) s

/-- `Z:pop`, R341: pop (`nextStackP`, `stackRaise`). -/
def execZPop (m : Micro) (s : State) : Host.Outcome State Fault Refusal :=
  runCycle (m.withZ (.norm .pop)) s

/-- `Z:push`, R342: push (`nextStackP`, `stackRaise`). -/
def execZPush (m : Micro) (s : State) : Host.Outcome State Fault Refusal :=
  runCycle (m.withZ (.norm .push)) s

/-- `Z:AlwaysIBDisp`, R319: dispatch whatever the buffer holds (`dispatchPerformed`, `pendKindOut`, `ibRaise`). -/
def execZAlwaysIBDisp (m : Micro) (s : State) : Host.Outcome State Fault Refusal :=
  runCycle (m.withZ (.norm .alwaysIBDisp)) s

/-- `Z:Noop`, R111: Z plane idle (no effect of its own). -/
def execZNoop (m : Micro) (s : State) : Host.Outcome State Fault Refusal :=
  runCycle (m.withZ (.norm .noop)) s

/-- `Z:reserved (fZ=0x9)`, R112: reserved, acts as Noop (no effect of its own). -/
def execZReserved9 (m : Micro) (s : State) : Host.Outcome State Fault Refusal :=
  runCycle (m.withZ (.norm .reserved9)) s

/-- `Z:reserved (fZ=0xA)`, R112: reserved, acts as Noop (no effect of its own). -/
def execZReservedA (m : Micro) (s : State) : Host.Outcome State Fault Refusal :=
  runCycle (m.withZ (.norm .reservedA)) s

/-- `Z:reserved (fZ=0xB)`, R112: reserved, acts as Noop (no effect of its own). -/
def execZReservedB (m : Micro) (s : State) : Host.Outcome State Fault Refusal :=
  runCycle (m.withZ (.norm .reservedB)) s

/-- `Z:LRot0`, R220: `R[rA]` onto X (`rotSource`). -/
def execZLRot0 (m : Micro) (s : State) : Host.Outcome State Fault Refusal :=
  runCycle (m.withZ (.norm .lrot0)) s

/-- `Z:LRot12`, R221: `R[rA]` rotated left 12 onto X (`rotSource`). -/
def execZLRot12 (m : Micro) (s : State) : Host.Outcome State Fault Refusal :=
  runCycle (m.withZ (.norm .lrot12)) s

/-- `Z:LRot8`, R222: `R[rA]` rotated left 8 onto X (`rotSource`). -/
def execZLRot8 (m : Micro) (s : State) : Host.Outcome State Fault Refusal :=
  runCycle (m.withZ (.norm .lrot8)) s

/-- `Z:LRot4`, R223: `R[rA]` rotated left 4 onto X (`rotSource`). -/
def execZLRot4 (m : Micro) (s : State) : Host.Outcome State Fault Refusal :=
  runCycle (m.withZ (.norm .lrot4)) s

/-- `nib=0xN`, R192: nibble literal on the X bus (`constSource`). -/
def execNibLit (imm : BitVec 4) (m : Micro) (s : State) : Host.Outcome State Fault Refusal :=
  runCycle (m.withZ (.nibble imm)) s

/-- `uaddr=0xN`, R216: SU address low nibble (`suAddr`). -/
def execUaddr (lo : BitVec 4) (m : Micro) (s : State) : Host.Outcome State Fault Refusal :=
  runCycle (m.withZ (.uaddr lo)) s

end Sys2Proof.Machine
end

