-- ==== Sys2Proof/Machine/Dispatch.lean ====
section
/-! DEFINITION. The dispatch of an instruction to its meaning: one arm per row of spec/opcode_table.json. -/

namespace Sys2Proof.Machine

def exec (i : Instr) (s : State) : Host.Outcome State Fault Refusal :=
  match i with
  | .srcAQ m => Sys2Proof.Machine.execSrcAQ m s
  | .srcAB m => Sys2Proof.Machine.execSrcAB m s
  | .src0Q m => Sys2Proof.Machine.execSrc0Q m s
  | .src0B m => Sys2Proof.Machine.execSrc0B m s
  | .src0A m => Sys2Proof.Machine.execSrc0A m s
  | .srcDA m => Sys2Proof.Machine.execSrcDA m s
  | .srcDQ m => Sys2Proof.Machine.execSrcDQ m s
  | .srcD0 m => Sys2Proof.Machine.execSrcD0 m s
  | .fnADD m => Sys2Proof.Machine.execFnADD m s
  | .fnSUBR m => Sys2Proof.Machine.execFnSUBR m s
  | .fnSUBS m => Sys2Proof.Machine.execFnSUBS m s
  | .fnOR m => Sys2Proof.Machine.execFnOR m s
  | .fnAND m => Sys2Proof.Machine.execFnAND m s
  | .fnNOTRS m => Sys2Proof.Machine.execFnNOTRS m s
  | .fnXOR m => Sys2Proof.Machine.execFnXOR m s
  | .fnXNOR m => Sys2Proof.Machine.execFnXNOR m s
  | .dest0Q m => Sys2Proof.Machine.execDest0Q m s
  | .dest1NONE m => Sys2Proof.Machine.execDest1NONE m s
  | .dest2BA m => Sys2Proof.Machine.execDest2BA m s
  | .dest3B m => Sys2Proof.Machine.execDest3B m s
  | .dest4DoubleRight isCycle m => Sys2Proof.Machine.execDest4DoubleRight isCycle m s
  | .dest5SingleRight isCycle m => Sys2Proof.Machine.execDest5SingleRight isCycle m s
  | .dest6DoubleLeft isCycle m => Sys2Proof.Machine.execDest6DoubleLeft isCycle m s
  | .dest7SingleLeft isCycle m => Sys2Proof.Machine.execDest7SingleLeft isCycle m s
  | .ep m => Sys2Proof.Machine.execEp m s
  | .cin1 m => Sys2Proof.Machine.execCin1 m s
  | .cin0 m => Sys2Proof.Machine.execCin0 m s
  | .suWriteAQ m => Sys2Proof.Machine.execSuWriteAQ m s
  | .suWriteAB m => Sys2Proof.Machine.execSuWriteAB m s
  | .suWrite0Q m => Sys2Proof.Machine.execSuWrite0Q m s
  | .suWrite0B m => Sys2Proof.Machine.execSuWrite0B m s
  | .suWrite0A m => Sys2Proof.Machine.execSuWrite0A m s
  | .suReadDA m => Sys2Proof.Machine.execSuReadDA m s
  | .suReadDQ m => Sys2Proof.Machine.execSuReadDQ m s
  | .suReadD0 m => Sys2Proof.Machine.execSuReadD0 m s
  | .memCycle1 m => Sys2Proof.Machine.execMemCycle1 m s
  | .memCycle2 m => Sys2Proof.Machine.execMemCycle2 m s
  | .memCycle3 m => Sys2Proof.Machine.execMemCycle3 m s
  | .xLink0 m => Sys2Proof.Machine.execXLink0 m s
  | .xLink1 m => Sys2Proof.Machine.execXLink1 m s
  | .xLink2 m => Sys2Proof.Machine.execXLink2 m s
  | .xLink3 m => Sys2Proof.Machine.execXLink3 m s
  | .xLink4 m => Sys2Proof.Machine.execXLink4 m s
  | .xLink5 m => Sys2Proof.Machine.execXLink5 m s
  | .xLink6 m => Sys2Proof.Machine.execXLink6 m s
  | .xLink7 m => Sys2Proof.Machine.execXLink7 m s
  | .xNoop m => Sys2Proof.Machine.execXNoop m s
  | .xRHLoad m => Sys2Proof.Machine.execXRHLoad m s
  | .xShift m => Sys2Proof.Machine.execXShift m s
  | .xCycle m => Sys2Proof.Machine.execXCycle m s
  | .xCinPc16 m => Sys2Proof.Machine.execXCinPc16 m s
  | .xReserved m => Sys2Proof.Machine.execXReserved m s
  | .xPop m => Sys2Proof.Machine.execXPop m s
  | .xPush m => Sys2Proof.Machine.execXPush m s
  | .yExitKernel m => Sys2Proof.Machine.execYExitKernel m s
  | .yEnterKernel m => Sys2Proof.Machine.execYEnterKernel m s
  | .yClrIntErr m => Sys2Proof.Machine.execYClrIntErr m s
  | .yIBDisp m => Sys2Proof.Machine.execYIBDisp m s
  | .yMesaIntRq m => Sys2Proof.Machine.execYMesaIntRq m s
  | .yStackPLoad m => Sys2Proof.Machine.execYStackPLoad m s
  | .yIBLoad m => Sys2Proof.Machine.execYIBLoad m s
  | .yReserved m => Sys2Proof.Machine.execYReserved m s
  | .yNoop m => Sys2Proof.Machine.execYNoop m s
  | .yMap m => Sys2Proof.Machine.execYMap m s
  | .yRefresh m => Sys2Proof.Machine.execYRefresh m s
  | .yPush m => Sys2Proof.Machine.execYPush m s
  | .yClrDPRq m => Sys2Proof.Machine.execYClrDPRq m s
  | .yClrIOPRq m => Sys2Proof.Machine.execYClrIOPRq m s
  | .yClrKFlags m => Sys2Proof.Machine.execYClrKFlags m s
  | .yPop m => Sys2Proof.Machine.execYPop m s
  | .yNegBr m => Sys2Proof.Machine.execYNegBr m s
  | .yZeroBr m => Sys2Proof.Machine.execYZeroBr m s
  | .yNZeroBr m => Sys2Proof.Machine.execYNZeroBr m s
  | .yMesaIntBr m => Sys2Proof.Machine.execYMesaIntBr m s
  | .yPgCarryBr m => Sys2Proof.Machine.execYPgCarryBr m s
  | .yCarryBr m => Sys2Proof.Machine.execYCarryBr m s
  | .yXRefBr m => Sys2Proof.Machine.execYXRefBr m s
  | .yNibCarryBr m => Sys2Proof.Machine.execYNibCarryBr m s
  | .yXDisp m => Sys2Proof.Machine.execYXDisp m s
  | .yYDisp m => Sys2Proof.Machine.execYYDisp m s
  | .yXC2npcDisp m => Sys2Proof.Machine.execYXC2npcDisp m s
  | .yYIODisp m => Sys2Proof.Machine.execYYIODisp m s
  | .yXwdDisp m => Sys2Proof.Machine.execYXwdDisp m s
  | .yXHDisp m => Sys2Proof.Machine.execYXHDisp m s
  | .yXLDisp m => Sys2Proof.Machine.execYXLDisp m s
  | .yPgCrOvDisp m => Sys2Proof.Machine.execYPgCrOvDisp m s
  | .yIOPOData m => Sys2Proof.Machine.execYIOPOData m s
  | .yIOPCtl m => Sys2Proof.Machine.execYIOPCtl m s
  | .yKOData m => Sys2Proof.Machine.execYKOData m s
  | .yKCtl m => Sys2Proof.Machine.execYKCtl m s
  | .yEOData m => Sys2Proof.Machine.execYEOData m s
  | .yEICtl m => Sys2Proof.Machine.execYEICtl m s
  | .yDCtlFifo m => Sys2Proof.Machine.execYDCtlFifo m s
  | .yDCtl m => Sys2Proof.Machine.execYDCtl m s
  | .yDBorder m => Sys2Proof.Machine.execYDBorder m s
  | .yPCtl m => Sys2Proof.Machine.execYPCtl m s
  | .yMCtl m => Sys2Proof.Machine.execYMCtl m s
  | .yOut11 m => Sys2Proof.Machine.execYOut11 m s
  | .yEOCtl m => Sys2Proof.Machine.execYEOCtl m s
  | .yKCmd m => Sys2Proof.Machine.execYKCmd m s
  | .yOut14 m => Sys2Proof.Machine.execYOut14 m s
  | .yPOData m => Sys2Proof.Machine.execYPOData m s
  | .byteLit imm m => Sys2Proof.Machine.execByteLit imm m s
  | .zRefresh m => Sys2Proof.Machine.execZRefresh m s
  | .zReserved1 m => Sys2Proof.Machine.execZReserved1 m s
  | .zReserved2 m => Sys2Proof.Machine.execZReserved2 m s
  | .zCinPc16 m => Sys2Proof.Machine.execZCinPc16 m s
  | .zReserved4 m => Sys2Proof.Machine.execZReserved4 m s
  | .zPop m => Sys2Proof.Machine.execZPop m s
  | .zPush m => Sys2Proof.Machine.execZPush m s
  | .zAlwaysIBDisp m => Sys2Proof.Machine.execZAlwaysIBDisp m s
  | .zNoop m => Sys2Proof.Machine.execZNoop m s
  | .zReserved9 m => Sys2Proof.Machine.execZReserved9 m s
  | .zReservedA m => Sys2Proof.Machine.execZReservedA m s
  | .zReservedB m => Sys2Proof.Machine.execZReservedB m s
  | .zLRot0 m => Sys2Proof.Machine.execZLRot0 m s
  | .zLRot12 m => Sys2Proof.Machine.execZLRot12 m s
  | .zLRot8 m => Sys2Proof.Machine.execZLRot8 m s
  | .zLRot4 m => Sys2Proof.Machine.execZLRot4 m s
  | .nibLit imm m => Sys2Proof.Machine.execNibLit imm m s
  | .uaddr lo m => Sys2Proof.Machine.execUaddr lo m s
  | .zEIData m => Sys2Proof.Machine.execZEIData m s
  | .zEStatus m => Sys2Proof.Machine.execZEStatus m s
  | .zKIData m => Sys2Proof.Machine.execZKIData m s
  | .zKStatus m => Sys2Proof.Machine.execZKStatus m s
  | .zKStrobe m => Sys2Proof.Machine.execZKStrobe m s
  | .zMStatus m => Sys2Proof.Machine.execZMStatus m s
  | .zKTest m => Sys2Proof.Machine.execZKTest m s
  | .zEStrobe m => Sys2Proof.Machine.execZEStrobe m s
  | .zIOPIData m => Sys2Proof.Machine.execZIOPIData m s
  | .zIOPStatus m => Sys2Proof.Machine.execZIOPStatus m s
  | .zErrIBStk m => Sys2Proof.Machine.execZErrIBStk m s
  | .zRH m => Sys2Proof.Machine.execZRH m s
  | .zIbNA m => Sys2Proof.Machine.execZIbNA m s
  | .zIb m => Sys2Proof.Machine.execZIb m s
  | .zIbLow m => Sys2Proof.Machine.execZIbLow m s
  | .zIbHigh m => Sys2Proof.Machine.execZIbHigh m s
  | .gotoInia inia m => Sys2Proof.Machine.execGotoInia inia m s

end Sys2Proof.Machine
end

