-- ==== Sys2Proof/Machine/Step.lean ====
section
/-! DEFINITION. The step of the machine: the cycle step of 49_cycle_click_tasks.md R370, then the environment's turn (R371); and
the placing of an instruction where the next step fetches it. -/

namespace Sys2Proof.Machine

/-- Fetch (R373): `CS[TPC[curTask]]`. -/
def fetch (s : State) : MWord := csRead s (rd s.tpc s.curTask.id)

/-- One step. While `waiting`, no cycle executes (R370); the environment may act all the same (R371). -/
def step (s : State) : Host.Outcome State Fault Refusal :=
  if s.waiting then .next (envPhase s)
  else
    match exec (decode (fetch s)) s with
    | .next t => .next (envPhase t)
    | .fault e => .fault e
    | .refused e => .refused e

/-- The state with an instruction stored where the next step fetches: the control-store word of the current task's counter,
as `CSWrite` puts it, and the reset latch cleared, as the first `WakeTask` does (R451; notes/assumptions/2.md). -/
def State.withFetchWord (s : State) (nbits w : Nat) : State :=
  { csWrite (rd s.tpc s.curTask.id) (BitVec.ofNat 48 (w % 2 ^ nbits)) s with waiting := false }

end Sys2Proof.Machine
end

