-- ==== Sys2Proof/Safety.lean ====
section
/-! DEFINITION. What counts as a good state and a well-behaved microinstruction, in the terms the statements use. -/

namespace Sys2Proof.Machine

/-- The invariant of the machine: the control store is canonical; the parity cause is never signaled (60_exceptions.md R402);
the trap countdown is 0, 1 or 2 (10_state.md R38, R47); the latches of a click and the exit signal are clear when a click
starts (R43 to R45); the task of the I/O processor's control-store slot never runs (49_cycle_click_tasks.md R385); a machine
still waiting is at the start of the Kernel's first click with nobody woken (R46, 70_reset_and_hazards.md R450, R451). -/
structure State.Inv (s : State) : Prop where
  /-- canonical control store -/
  csWf : Memory.wf s.cs = true
  /-- R402 -/
  noParity : s.errSet.parity = false
  /-- R38 -/
  trapRange : s.trapCount ≤ 2
  /-- R43, R44, R45 -/
  clickStart : s.cycle = .c1 → s.pageCrossLatch = false ∧ s.ibEmptyLatch = false ∧ s.kernelExit = false
  /-- R385 -/
  scheduled : s.curTask ≠ .iopControlStore
  /-- R46 -/
  atRest : s.waiting = true → s.curTask = .kernel ∧ s.cycle = .c1 ∧ s.click = 0 ∧ s.wake = Vector.replicate _ false

/-- The microinstruction has a meaning in the state: it is no instruction-buffer load that the document leaves without an
effect (46_ib.md R313). -/
def Runs (m : Micro) (s : State) : Prop :=
  m.ibLoad = true → m.alwaysDisp = false ∧ m.peekAdvances = false ∧ (s.ibPtr = .empty ∨ s.ibPtr = .byte)

/-- The bytes the instruction buffer still holds, next one first (46_ib.md R310). -/
def ibBytes (b : IbData) : List Byte :=
  match b.ptr with
  | .empty => []
  | .byte => [b.front]
  | .word => [b.front, b.pair.extractLsb' 0 8]
  | .full => [b.front, b.pair.extractLsb' 8 8, b.pair.extractLsb' 0 8]

/-- The modifier the next instruction of task `k` will use: the live one if `k` is current, else the saved one
(10_state.md R31, R41). -/
def modifierOf (t : State) (k : Task) : Nibble := if t.curTask = k then t.niax else rd t.tc k.id

/-- The cycle ends a click of the Emulator, the only place where the error trap can fire (60_exceptions.md R408). -/
def EmulatorClickEnd (s : State) : Prop := s.curTask = .emulator ∧ s.cycle = .c3

/-- The events of the step from `s` to `t` that satisfy `p` are `l`, in order. -/
def Emitted (s t : State) (p : Event → Bool) (l : List Event) : Prop :=
  ∃ es, t.events = s.events ++ es ∧ es.filter p = l

/-- A device write. -/
def Event.isDeviceWrite : Event → Bool
  | .deviceWrite _ _ => true
  | _ => false

/-- A device strobe. -/
def Event.isStrobe : Event → Bool
  | .deviceStrobe _ => true
  | _ => false

/-- A refresh strobe. -/
def Event.isRefresh : Event → Bool
  | .refresh => true
  | _ => false

/-- A request clear. -/
def Event.isClear : Event → Bool
  | .clearRequest _ => true
  | _ => false

/-- A call of a bus service. -/
def Event.isBus : Event → Bool
  | .loadAddressRegister _ _ => true
  | .loadDataRegister _ => true
  | _ => false

/-- The environment's script never writes the control store. -/
def scriptLeavesStore (l : List EnvTick) : Bool :=
  l.all (fun t => t.acts.all (fun a => match a with
    | .csWrite _ _ => false
    | _ => true))

/-- No word of the control store codes `ExitKernel`. -/
def neverExits (s : State) : Prop := ∀ a : MAddr, (decodeMicro (csRead s a)).exitKernel = false

/-- One X-bus source per instruction, and one where the bus is consumed (70_reset_and_hazards.md R466). -/
def busDisciplined (m : Micro) (s : State) : Prop :=
  m.xDriverCount (decide (s.cycle = .c3)) ≤ 1
    ∧ (m.needsXBus = true → m.xDriverCount (decide (s.cycle = .c3)) = 1)

end Sys2Proof.Machine
end

