-- ==== Sys2Proof/Certificates/Slice0/Obligations.lean ====
section
/-! DEFINITION. The statements for the provers, each `def Obligations.<Name> : Prop`; OBLIGATIONS.json lists them. -/

open Sys2Proof Sys2Proof.Machine

/-- In State.reset every register of the reset summary R49 reads as R49 says: the register files, link registers,
counters, saved modifiers all 0, wake flags clear, Kernel current, cycle 1, click 0, buffer Empty, no cause signaled,
plain merge rule, latches clear, waiting set. The control store (CS_INIT, a parameter) is not spoken of. A step
changes nothing; after WakeTask of any task the machine is not waiting, the Kernel is current in cycle 1 of click 0
and the word fetched is the one at address 0. Cites: R49, R450, R451, R417. -/
def Obligations.ResetLeavesTheSpecValues : Prop :=
  (∀ i, rd State.reset.r i = 0) ∧ State.reset.q = 0
    ∧ State.reset.flags = { zero := false, negative := false, nibbleCarry := false, pageCarry := false,
                            carryOut := false, overflow := false }
    ∧ (∀ i, rd State.reset.su i = 0) ∧ (∀ i, rd State.reset.rh i = 0) ∧ (∀ i, rd State.reset.link i = 0)
    ∧ State.reset.stackP = 0 ∧ State.reset.pc16 = false ∧ State.reset.ibFront = 0 ∧ State.reset.ibPair = 0
    ∧ State.reset.ibPtr = .empty ∧ (∀ k, rd State.reset.tpc k = 0) ∧ (∀ k, rd State.reset.tc k = 0)
    ∧ (∀ k, rd State.reset.wake k = false) ∧ State.reset.curTask = .kernel ∧ State.reset.cycle = .c1
    ∧ State.reset.click = 0 ∧ State.reset.errSet = ErrSet.empty ∧ State.reset.trapCount = 0
    ∧ State.reset.mint = false ∧ State.reset.niax = 0 ∧ State.reset.pendKind = .plain
    ∧ State.reset.pageCrossLatch = false ∧ State.reset.ibEmptyLatch = false ∧ State.reset.kernelExit = false
    ∧ State.reset.waiting = true
    ∧ step State.reset = .next State.reset
    ∧ ∀ k : Task, (wakeTask k State.reset).waiting = false ∧ (wakeTask k State.reset).curTask = .kernel
        ∧ (wakeTask k State.reset).cycle = .c1 ∧ (wakeTask k State.reset).click = 0
        ∧ fetch (wakeTask k State.reset) = csRead State.reset 0

/-- State.reset satisfies State.Inv: canonical control store, parity cause clear, countdown at most 2, latches and exit
signal clear in cycle 1, task 6 not current, and a waiting machine at the start of the Kernel's first click with
nobody woken. Cites: R49, R47. -/
def Obligations.ResetIsGood : Prop :=
  State.reset.Inv

/-- From every state that satisfies State.Inv, if the step answers a next state, that state satisfies State.Inv again. The
step covers the cycle, the raises, the click step with the trap and the task switch, and any list of acts of the
environment (control-store and program-counter writes, wakes, sleeps, reset). Cites: R47, R385, R402, R43, R44, R45,
R46, R371. -/
def Obligations.StepKeepsTheInvariant : Prop :=
  ∀ s t : State, s.Inv → step s = .next t → t.Inv

/-- For every microinstruction m, decodeMicro of encodeMicro m is m, with every field at every value; and for every 48-bit
word w, encodeMicro of decodeMicro w is w: no bit of a word is dropped and no word is refused. Cites: R90, R99, R104,
R113, R120. -/
def Obligations.DecoderInvertsEncoder : Prop :=
  (∀ m : Micro, decodeMicro (encodeMicro m) = m) ∧ ∀ w : MWord, encodeMicro (decodeMicro w) = w

/-- For every 48-bit word w and every instruction i (a row with the microinstruction it stands in), i is among the
instructions w decodes to if and only if i is well formed and the encoding of i is w. Also the decoder's own choice is
one of them, and it reads back its own encoding. Cites: R90, R105, R106, R107, R108, R109, R110, R123. -/
def Obligations.DecodeRowsAreExactlyTheEncodedRows : Prop :=
  (∀ (w : MWord) (i : Instr), i ∈ decodeRows w ↔ WellFormed i = true ∧ encode i = w)
    ∧ ∀ w : MWord, decode w ∈ decodeRows w ∧ decode (encode (decode w)) = decode w

/-- For every word w: every instruction w decodes to is of a row whose pattern (mask, match, exclusion of
opcode_table.json) w satisfies; and for every row whose pattern w satisfies, w decodes to an instruction of that row.
Cites: 30_encoding.md section 3, R90, R113. -/
def Obligations.DecoderFollowsTheOpcodeTable : Prop :=
  ∀ w : MWord, (∀ i ∈ decodeRows w, i.pattern.selects w = true)
    ∧ ∀ i : Instr, i.pattern.selects w = true → ∃ j ∈ decodeRows w, j.rowIx = i.rowIx

/-- Six 48-bit words of 95_test_vectors.md decode to the fields the vectors print: the addition of T1, the buffer load and
the buffer read of T2, the triple push word of T4, the branch word of P1 and the paged store word of P2. Cites: R90,
R115, 95_test_vectors.md T1, 95_test_vectors.md T2, 95_test_vectors.md P1. -/
def Obligations.SpecWordsDecode : Prop :=
  decodeMicro 0x012300888000 = { Micro.idle with rB := 1, aS := .ab, aD := .b }
    ∧ decodeMicro 0x10010068C001
        = { Micro.idle with rA := 1, planes := .yz (.norm .ibLoad) (.norm .lrot0), inia := 0x001 }
    ∧ decodeMicro 0x03E30388D002
        = { Micro.idle with rB := 3, aS := .dz, aD := .b, planes := .yz (.norm .noop) (.input .ib), inia := 0x002 }
    ∧ decodeMicro 0x000100BF6000 = { Micro.idle with x := .push, planes := .yz (.norm .push) (.norm .push) }
    ∧ decodeMicro 0x016704188012
        = { Micro.idle with rB := 1, aS := .zb, aF := .subr, aD := .b,
                            planes := .yz (.branch .zeroBr) (.norm .noop), inia := 0x012 }
    ∧ decodeMicro 0x44A31C280001
        = { Micro.idle with rA := 4, rB := 4, aS := .da, aD := .b, mem := true, planes := .byte 0x20 0, inia := 0x001 }

/-- If the machine is not waiting and the word CS[TPC[curTask]] is the encoding of a well-formed instruction i, then step
is exec of i at that state, followed by the environment's turn. If the machine is waiting, step is the environment's
turn alone; with an empty script that changes nothing. Cites: R61, R370, R371, R373. -/
def Obligations.StepRunsTheDecodedInstruction : Prop :=
  (∀ (s : State) (i : Instr), s.waiting = false → WellFormed i = true → encode i = csRead s (rd s.tpc s.curTask.id) →
      step s = (match exec i s with
        | .next t => .next (envPhase t)
        | .fault e => .fault e
        | .refused e => .refused e))
    ∧ (∀ s : State, s.waiting = true → step s = .next (envPhase s))
    ∧ ∀ s : State, s.script = [] → envPhase s = s

/-- The model reads a microinstruction through any of the rows it codes; all these views run the same cycle. For every
word and any two instructions it decodes to, exec of one equals exec of the other in every state. This is the model's
choice of form (notes/assumptions/1.md). Cites: R90, R372, notes/assumptions/1.md. -/
def Obligations.RowsOfAWordShareOneMeaning : Prop :=
  ∀ (w : MWord) (i j : Instr) (s : State), i ∈ decodeRows w → j ∈ decodeRows w → exec i s = exec j s

/-- The carry table entry CT[x][y][c] is (x + y + c) >> 4, and for all 16-bit a, b and carry-in the cascade through the
tables gives the carry into bit 4, into bit 8 and into bit 12 and out of bit 15 of the direct sum. Cites: R150. -/
def Obligations.CarryCascadeIsExact : Prop :=
  (∀ (x y : BitVec 4) (c : Bool), (carryTable x y c).toNat = (x.toNat + y.toNat + c.toNat) >>> 4)
    ∧ ∀ (a b : Word) (c : Bool),
        cascade a b c 0 = decide (2 ^ 4 ≤ a.toNat % 2 ^ 4 + b.toNat % 2 ^ 4 + c.toNat)
        ∧ cascade a b c 1 = decide (2 ^ 8 ≤ a.toNat % 2 ^ 8 + b.toNat % 2 ^ 8 + c.toNat)
        ∧ cascade a b c 2 = decide (2 ^ 12 ≤ a.toNat % 2 ^ 12 + b.toNat % 2 ^ 12 + c.toNat)
        ∧ cascade a b c 3 = decide (2 ^ 16 ≤ a.toNat + b.toNat + c.toNat)

/-- For all operands and carry-in: the 17-bit value {CarryOut, Fn} of R+S is R + S + cin; S-R with carry-in 1 is the
difference modulo 2^16 and CarryOut says S >= R unsigned; R-S likewise with R >= S; Overflow says that the exact
signed result is outside the 16-bit signed range. Cites: R149, R151, R152, R153, R160, R161, R163. -/
def Obligations.ArithmeticLawsHold : Prop :=
  ∀ r s : Word,
    (∀ c : Bool, (fnAdd r s c).carries.carry.toNat * 2 ^ 16 + (fnAdd r s c).f.toNat = r.toNat + s.toNat + c.toNat
      ∧ ((fnAdd r s c).carries.overflow = true
          ↔ (r.toInt + s.toInt + c.toNat < -2 ^ 15 ∨ 2 ^ 15 ≤ r.toInt + s.toInt + c.toNat)))
    ∧ (fnSubr r s true).f = s - r ∧ ((fnSubr r s true).carries.carry = true ↔ r.toNat ≤ s.toNat)
    ∧ ((fnSubr r s true).carries.overflow = true ↔ (s.toInt - r.toInt < -2 ^ 15 ∨ 2 ^ 15 ≤ s.toInt - r.toInt))
    ∧ (fnSubs r s true).f = r - s ∧ ((fnSubs r s true).carries.carry = true ↔ s.toNat ≤ r.toNat)
    ∧ ((fnSubs r s true).carries.overflow = true ↔ (r.toInt - s.toInt < -2 ^ 15 ∨ 2 ^ 15 ≤ r.toInt - s.toInt))
    ∧ (fnSubr r s false).f = s - r - 1 ∧ (fnSubs r s false).f = r - s - 1

/-- For each source-pair row, in every state where the microinstruction has a meaning, exec answers a next state; the
ALU's operand pair is the one the row's rule names, and outside address-load mode the flags are those of the function
on that pair. With D0, function ADD or OR and carry-in 0, and no address-load mode, the result is the X bus. Cites:
R140, R141, R142, R143, R144, R145, R146, R147. -/
def Obligations.SourceRowsSelectTheirOperands : Prop :=
  ∀ (m : Micro) (s : State),
    (∀ p ∈ ([(.srcAQ m, fun m => (rd s.r m.rA, s.q)), (.srcAB m, fun m => (rd s.r m.rA, rd s.r m.rB)),
              (.src0Q m, fun _ => (0, s.q)), (.src0B m, fun m => (0, rd s.r m.rB)), (.src0A m, fun m => (0, rd s.r m.rA)),
              (.srcDA m, fun m => (xBus m s, rd s.r m.rA)), (.srcDQ m, fun m => (xBus m s, s.q)),
              (.srcD0 m, fun m => (xBus m s, 0))] : List (Instr × (Micro → Word × Word))),
        Runs p.1.micro s →
          srcPair p.1.micro s = p.2 p.1.micro
          ∧ ∃ t, exec p.1 s = .next t
            ∧ (addressLoadMode p.1.micro s = false →
                t.flags = (aluFn s.params.logicNet m.aF (p.2 p.1.micro).1 (p.2 p.1.micro).2 (effCin p.1.micro s)).out.flags))
    ∧ (addressLoadMode (m.withSrc .dz) s = false → (m.aF = .add ∨ m.aF = .or) → effCin (m.withSrc .dz) s = false →
        aluF (m.withSrc .dz) s = xBus (m.withSrc .dz) s)

/-- For the three arithmetic rows, where the microinstruction has a meaning, exec answers a next state. Outside address-
load mode F is the addition of the rule's addends and the carry-in, and the next state's flags are Zero and Negative
of F, the carries into bits 4 and 8 and out of bit 15 of that addition, and two's-complement overflow. In address-load
mode NibbleCarry and PageCarry are the same carries. Cites: R149, R151, R152, R153, R159, R160, R161. -/
def Obligations.ArithmeticRowsCompute : Prop :=
  ∀ (m : Micro) (s : State),
    ∀ p ∈ ([(.fnADD m, fun r v => (r, v)), (.fnSUBR m, fun r v => (~~~r, v)), (.fnSUBS m, fun r v => (r, ~~~v))] :
        List (Instr × (Word → Word → Word × Word))),
      Runs p.1.micro s →
        ∃ t, exec p.1 s = .next t
          ∧ ∀ a b : Word, (a, b) = p.2 (srcPair p.1.micro s).1 (srcPair p.1.micro s).2 → ∀ c : Bool, c = effCin p.1.micro s →
            t.flags.nibbleCarry = decide (2 ^ 4 ≤ a.toNat % 2 ^ 4 + b.toNat % 2 ^ 4 + c.toNat)
            ∧ t.flags.pageCarry = decide (2 ^ 8 ≤ a.toNat % 2 ^ 8 + b.toNat % 2 ^ 8 + c.toNat)
            ∧ (addressLoadMode p.1.micro s = false →
                (aluF p.1.micro s).toNat = (a.toNat + b.toNat + c.toNat) % 2 ^ 16
                ∧ t.flags.zero = decide (aluF p.1.micro s = 0) ∧ t.flags.negative = (aluF p.1.micro s).getLsbD 15
                ∧ t.flags.carryOut = decide (2 ^ 16 ≤ a.toNat + b.toNat + c.toNat)
                ∧ (t.flags.overflow = true
                    ↔ a.getLsbD 15 = b.getLsbD 15 ∧ (aluF p.1.micro s).getLsbD 15 ≠ a.getLsbD 15))

/-- For OR, AND, NOTRS, XOR and XNOR, where the microinstruction has a meaning, exec answers a next state; outside
address-load mode F is the bitwise result, whatever the carry-in, Zero and Negative are those of F, and the four
carry-type flags are LOGIC_NET of the function code, the operands and the carry-in. Cites: R154, R155, R156, R157,
R158, R159, R162. -/
def Obligations.LogicalRowsCompute : Prop :=
  ∀ (m : Micro) (s : State),
    ∀ p ∈ ([(.fnOR m, .or, fun r v => r ||| v), (.fnAND m, .and, fun r v => r &&& v),
            (.fnNOTRS m, .notrs, fun r v => ~~~r &&& v), (.fnXOR m, .xor, fun r v => r ^^^ v),
            (.fnXNOR m, .xnor, fun r v => ~~~(r ^^^ v))] : List (Instr × AluFn × (Word → Word → Word))),
      Runs p.1.micro s →
        ∃ t, exec p.1 s = .next t
          ∧ (addressLoadMode p.1.micro s = false →
              aluF p.1.micro s = p.2.2 (srcPair p.1.micro s).1 (srcPair p.1.micro s).2
              ∧ t.flags.zero = decide (aluF p.1.micro s = 0) ∧ t.flags.negative = (aluF p.1.micro s).getLsbD 15
              ∧ (⟨t.flags.nibbleCarry, t.flags.pageCarry, t.flags.carryOut, t.flags.overflow⟩ : Carries)
                  = logicNet s.params.logicNet p.2.1 (srcPair p.1.micro s).1 (srcPair p.1.micro s).2 (effCin p.1.micro s))

/-- For every microinstruction and state: in address-load mode the top byte of F is the top byte of R[rB] for function
codes 0 to 3 and its complement for codes 4 to 7, whatever the operands, and the low byte is that of the nominal
function; otherwise F is the nominal result. Cites: R164. -/
def Obligations.AddressLoadForcesTheTopByte : Prop :=
  ∀ (m : Micro) (s : State),
    (addressLoadMode m s = true →
        (aluF m s).extractLsb' 8 8
          = (if m.aF.code.toNat < 4 then (rd s.r m.rB).extractLsb' 8 8 else ~~~((rd s.r m.rB).extractLsb' 8 8))
        ∧ (aluF m s).extractLsb' 0 8
          = (aluFn s.params.logicNet m.aF (srcPair m s).1 (srcPair m s).2 (effCin m s)).f.extractLsb' 0 8)
    ∧ (addressLoadMode m s = false →
        aluF m s = (aluFn s.params.logicNet m.aF (srcPair m s).1 (srcPair m s).2 (effCin m s)).f)

/-- Two cycles in address-load mode whose function codes force the same function, whose R[rB] have the same top byte,
whose carry-ins are equal and whose machines have the same ADDRLOAD_HI produce the same CarryOut and Overflow,
whatever their operands. In each, NibbleCarry and PageCarry are the nominal ones and Zero and Negative are those of
the overridden result. Cites: R159, R165. -/
def Obligations.AddressLoadCarriesIgnoreTheOperands : Prop :=
  ∀ (m n : Micro) (s t : State), addressLoadMode m s = true → addressLoadMode n t = true →
    s.params.addrLoadHi = t.params.addrLoadHi → (m.aF.code.toNat < 4 ↔ n.aF.code.toNat < 4) →
    (rd s.r m.rB).extractLsb' 8 8 = (rd t.r n.rB).extractLsb' 8 8 → effCin m s = effCin n t →
      (aluOut m s).flags.carryOut = (aluOut n t).flags.carryOut
      ∧ (aluOut m s).flags.overflow = (aluOut n t).flags.overflow
      ∧ (aluOut m s).flags.nibbleCarry
          = (aluFn s.params.logicNet m.aF (srcPair m s).1 (srcPair m s).2 (effCin m s)).carries.nibble
      ∧ (aluOut m s).flags.pageCarry
          = (aluFn s.params.logicNet m.aF (srcPair m s).1 (srcPair m s).2 (effCin m s)).carries.page
      ∧ (aluOut m s).flags.zero = decide (aluF m s = 0) ∧ (aluOut m s).flags.negative = (aluF m s).getLsbD 15

/-- For each of the four plain write-back rows, where the microinstruction has a meaning, exec answers a next state in
which exactly the registers of the rule are written with F and every other general register and Q (where not written)
keep their values; Y is F, but the start-of-cycle R[rA] for code 2. Cites: R170, R171, R172, R173, R174. -/
def Obligations.PlainWriteBackRowsComplete : Prop :=
  ∀ (m : Micro) (s : State),
    (Runs (m.withPlainDest .q) s → ∃ t, exec (.dest0Q m) s = .next t ∧ t.q = aluF (m.withPlainDest .q) s ∧ t.r = s.r
        ∧ yBus (m.withPlainDest .q) s = aluF (m.withPlainDest .q) s)
    ∧ (Runs (m.withPlainDest .none) s → ∃ t, exec (.dest1NONE m) s = .next t ∧ t.q = s.q ∧ t.r = s.r
        ∧ yBus (m.withPlainDest .none) s = aluF (m.withPlainDest .none) s)
    ∧ (Runs (m.withPlainDest .ba) s → ∃ t, exec (.dest2BA m) s = .next t ∧ t.q = s.q
        ∧ rd t.r m.rB = aluF (m.withPlainDest .ba) s ∧ (∀ j, j ≠ m.rB → rd t.r j = rd s.r j)
        ∧ yBus (m.withPlainDest .ba) s = rd s.r m.rA)
    ∧ (Runs (m.withPlainDest .b) s → ∃ t, exec (.dest3B m) s = .next t ∧ t.q = s.q
        ∧ rd t.r m.rB = aluF (m.withPlainDest .b) s ∧ (∀ j, j ≠ m.rB → rd t.r j = rd s.r j)
        ∧ yBus (m.withPlainDest .b) s = aluF (m.withPlainDest .b) s)
    ∧ ∀ n : Micro, yBus n s = if n.dest = .ba then rd s.r n.rA else aluF n s

/-- For each of the four shift rows, shift or cycle, where the microinstruction has a meaning, exec answers a next state:
R[rB] receives F moved one place with SHIFT_ENDS's bit entering, Q moves with it in the double-word codes and keeps
its value in the single-word ones, no other general register changes, Y is F; and where the machine has the spec's
default table (its own choice, notes/assumptions/8.md), the entering bits are the table's. Cites: R175, R176, R177,
R178, R179, notes/assumptions/8.md. -/
def Obligations.ShiftRowsComplete : Prop :=
  ∀ (m : Micro) (s : State) (y : Bool),
    (Runs (m.withShiftDest .q y) s → ∃ t, exec (.dest4DoubleRight y m) s = .next t
      ∧ ∀ n, n = m.withShiftDest .q y → ∀ e, e = shiftEnds s.params.shiftEnds .doubleRight y (aluF n s) s.q (effCin n s) t.flags →
          rd t.r m.rB = BitVec.ofBool e.ramIn ++ (aluF n s).extractLsb' 1 15
          ∧ t.q = BitVec.ofBool e.qIn ++ s.q.extractLsb' 1 15 ∧ (∀ j, j ≠ m.rB → rd t.r j = rd s.r j) ∧ yBus n s = aluF n s
          ∧ (s.params.shiftEnds = .specTable →
              e.ramIn = (if y then s.q.getLsbD 0 else effCin n s) ∧ e.qIn = (aluF n s).getLsbD 0))
    ∧ (Runs (m.withShiftDest .none y) s → ∃ t, exec (.dest5SingleRight y m) s = .next t
      ∧ ∀ n, n = m.withShiftDest .none y → ∀ e, e = shiftEnds s.params.shiftEnds .singleRight y (aluF n s) s.q (effCin n s) t.flags →
          rd t.r m.rB = BitVec.ofBool e.ramIn ++ (aluF n s).extractLsb' 1 15
          ∧ t.q = s.q ∧ (∀ j, j ≠ m.rB → rd t.r j = rd s.r j) ∧ yBus n s = aluF n s
          ∧ (s.params.shiftEnds = .specTable → e.ramIn = (if y then (aluF n s).getLsbD 0 else effCin n s)))
    ∧ (Runs (m.withShiftDest .ba y) s → ∃ t, exec (.dest6DoubleLeft y m) s = .next t
      ∧ ∀ n, n = m.withShiftDest .ba y → ∀ e, e = shiftEnds s.params.shiftEnds .doubleLeft y (aluF n s) s.q (effCin n s) t.flags →
          rd t.r m.rB = (aluF n s).extractLsb' 0 15 ++ BitVec.ofBool e.ramIn
          ∧ t.q = s.q.extractLsb' 0 15 ++ BitVec.ofBool e.qIn ∧ (∀ j, j ≠ m.rB → rd t.r j = rd s.r j) ∧ yBus n s = aluF n s
          ∧ (s.params.shiftEnds = .specTable →
              e.ramIn = s.q.getLsbD 15 ∧ e.qIn = (if y then (aluF n s).getLsbD 15 else effCin n s)))
    ∧ (Runs (m.withShiftDest .b y) s → ∃ t, exec (.dest7SingleLeft y m) s = .next t
      ∧ ∀ n, n = m.withShiftDest .b y → ∀ e, e = shiftEnds s.params.shiftEnds .singleLeft y (aluF n s) s.q (effCin n s) t.flags →
          rd t.r m.rB = (aluF n s).extractLsb' 0 15 ++ BitVec.ofBool e.ramIn
          ∧ t.q = s.q ∧ (∀ j, j ≠ m.rB → rd t.r j = rd s.r j) ∧ yBus n s = aluF n s
          ∧ (s.params.shiftEnds = .specTable → e.ramIn = (if y then (aluF n s).getLsbD 15 else effCin n s)))

/-- The rows X:shift and X:cycle, where the microinstruction has a meaning, answer a next state, the same one as the
write-back row 4 to 7 that aD selects, with the shift-or-cycle bit of the row; and the write-back code of any
microinstruction is 4 + aD if it codes shift or cycle, else aD. Cites: R123, R185, R186. -/
def Obligations.ShiftAndCycleSelectTheWriteBackCode : Prop :=
  (∀ (m : Micro) (s : State) (y : Bool), Runs (m.withX (if y then .cycle else .shift)) s →
      ∃ t, exec (if y then .xCycle m else .xShift m) s = .next t
        ∧ exec (match m.aD with
            | .q => .dest4DoubleRight y m
            | .none => .dest5SingleRight y m
            | .ba => .dest6DoubleLeft y m
            | .b => .dest7SingleLeft y m) s = .next t)
    ∧ ∀ m : Micro, m.dest = (if m.x = .shift ∨ m.x = .cycle then
          (match m.aD with | .q => .doubleRight | .none => .singleRight | .ba => .doubleLeft | .b => .singleLeft)
        else (match m.aD with | .q => .q | .none => .none | .ba => .ba | .b => .b))

/-- For the rows Cin = 0, Cin = 1, X:Cin<-pc16 and Z:Cin<-pc16, where the microinstruction has a meaning, exec answers a
next state. The effective carry-in is pc16 and pc16 toggles exactly when the X plane codes the override, or the Z
plane codes it and the raw carry bit is 1; otherwise the carry-in is the raw bit and pc16 stays. Cites: R180, R181,
R182, R183, R184. -/
def Obligations.CarryInRowsComplete : Prop :=
  ∀ (m : Micro) (s : State), ∀ i ∈ ([.cin0 m, .cin1 m, .xCinPc16 m, .zCinPc16 m] : List Instr), Runs i.micro s →
    ∃ t, exec i s = .next t
      ∧ ((i.micro.x = .cinPc16 ∨ (i.micro.planes.z? = some (.norm .cinPc16) ∧ i.micro.cin = true)) →
          effCin i.micro s = s.pc16 ∧ t.pc16 = !s.pc16)
      ∧ (¬ (i.micro.x = .cinPc16 ∨ (i.micro.planes.z? = some (.norm .cinPc16) ∧ i.micro.cin = true)) →
          effCin i.micro s = i.micro.cin ∧ t.pc16 = s.pc16)

/-- The decoder carries bit 31 of the word; a cycle answers the same whatever that bit is; and the EP row, where the
microinstruction has a meaning, answers a next state, the one of the same word with the bit 0. Cites: R95. -/
def Obligations.ParityBitIsNeverRead : Prop :=
  (∀ w : MWord, (decodeMicro w).ep = w.getLsbD 31)
    ∧ (∀ (m : Micro) (s : State) (b : Bool), runCycle (m.withEp b) s = runCycle m s)
    ∧ ∀ (m : Micro) (s : State), Runs m s → ∃ t, exec (.ep m) s = .next t ∧ runCycle (m.withEp false) s = .next t

/-- For each row with enSU and a source pair without D, where the microinstruction has a meaning, exec answers a next
state in which SU at the computed address holds Y and every other entry is unchanged; the address is {rA, fZ} in
U-address mode and {0, stackP} with the start-of-cycle pointer otherwise. Cites: R65, R130, R216, R331, R340. -/
def Obligations.SuWriteRowsComplete : Prop :=
  ∀ (m : Micro) (s : State), ∀ i ∈ ([.suWriteAQ m, .suWriteAB m, .suWrite0Q m, .suWrite0B m, .suWrite0A m] : List Instr),
    Runs i.micro s →
      ∃ t, exec i s = .next t
        ∧ (∀ a : Byte, suAddr i.micro s = a → rd t.su a = yBus i.micro s ∧ ∀ b, b ≠ a → rd t.su b = rd s.su b)
        ∧ suAddr i.micro s = (match m.planes.z? with
            | some (.uaddr lo) => m.rA ++ lo
            | _ => 0#4 ++ s.stackP)

/-- For each row with enSU and a source pair with D, where the microinstruction has a meaning, exec answers a next state
in which the SU file is unchanged; when no literal, Z-plane input or rotate is coded, the X bus, which is the ALU's R
operand, is the start-of-cycle entry at the SU address. Cites: R65, R130, R190, R215, R216. -/
def Obligations.SuReadRowsComplete : Prop :=
  ∀ (m : Micro) (s : State), ∀ i ∈ ([.suReadDA m, .suReadDQ m, .suReadD0 m] : List Instr), Runs i.micro s →
    ∃ t, exec i s = .next t ∧ t.su = s.su ∧ (srcPair i.micro s).1 = xBus i.micro s
      ∧ (m.const? = none → m.rotAmount = none → (∀ op, m.input? = some op → op.drives = false) →
          xBus i.micro s = rd s.su (suAddr i.micro s))

/-- For every microinstruction and state: a literal drives X zero-extended; without one, a reading Z-plane input; without
one, the rotated R[rA]; without one, the SU entry of a read; without one, in cycle 3 with mem, the data word the
environment answers to the current task; with none of these X is XBUS_IDLE. Cites: R190, R191, R192, R193, R194, R195,
R213, R215. -/
def Obligations.XBusTakesTheFirstCodedSource : Prop :=
  ∀ (m : Micro) (s : State), xBus m s =
    match m.const?, m.input?.bind (fun op => inputValue op m s), m.rotAmount with
    | some c, _, _ => 0#8 ++ c
    | none, some v, _ => v
    | none, none, some n => (rd s.r m.rA).rotateLeft n
    | none, none, none =>
      if m.suRead = true then rd s.su (suAddr m s)
      else if m.mem = true ∧ s.cycle = .c3 then (rd s.inputs.data s.curTask.id).value
      else s.params.xbusIdle

/-- byte=0xNN always answers a next state with X = {0x00, literal}: no buffer load, branch, device write or Z function is
coded in the word, and the Y plane and Z plane add nothing to modifier or events. nib=0xN, where the microinstruction
has a meaning, answers a next state with X = {0x000, literal} and leaves the Y plane its own operation. Cites: R104,
R191, R192, R102, R99. -/
def Obligations.LiteralRowsComplete : Prop :=
  (∀ (m : Micro) (s : State) (imm : BitVec 8), xBus (m.withByte imm) s = 0#8 ++ imm
      ∧ ∃ t, exec (.byteLit imm m) s = .next t ∧ t.mint = s.mint ∧ t.wake = s.wake ∧ t.errSet.ib = s.errSet.ib
        ∧ t.ibPtr = s.ibPtr ∧ t.ibFront = s.ibFront ∧ t.ibPair = s.ibPair
        ∧ Emitted s t (fun e => !e.isBus) []
        ∧ (¬ EmulatorClickEnd s → modifierOf t s.curTask
            = (if pageCrossNow (m.withByte imm) s then 2 else 0) ||| linkBits (m.withByte imm) s))
    ∧ ∀ (m : Micro) (s : State) (imm : BitVec 4), xBus (m.withZ (.nibble imm)) s = 0#12 ++ imm
        ∧ (∀ y, m.planes.y? = some y → (m.withZ (.nibble imm)).planes.y? = some y)
        ∧ (Runs (m.withZ (.nibble imm)) s → ∃ t, exec (.nibLit imm m) s = .next t
            ∧ Emitted s t Event.isStrobe [])

/-- For each of the eight reading device codes, where the microinstruction has a meaning, exec answers a next state and
the X bus of the cycle is the environment's answer for port fZ. Cites: R197, R198, R199, R200, R202, R203, R205, R206. -/
def Obligations.DeviceReadRowsComplete : Prop :=
  ∀ (m : Micro) (s : State),
    ∀ p ∈ ([(.zEIData m, 0), (.zEStatus m, 1), (.zKIData m, 2), (.zKStatus m, 3), (.zMStatus m, 5), (.zKTest m, 6),
            (.zIOPIData m, 8), (.zIOPStatus m, 9)] : List (Instr × BitVec 4)),
      Runs p.1.micro s → xBus p.1.micro s = rd s.inputs.device p.2 ∧ ∃ t, exec p.1 s = .next t

/-- For the two strobe codes, where the microinstruction has a meaning, exec answers a next state with exactly one strobe
event, for port 4 or 7; the X bus is what it would be with the Z plane idle. Cites: R201, R204. -/
def Obligations.StrobeRowsComplete : Prop :=
  ∀ (m : Micro) (s : State), ∀ p ∈ ([(.zKStrobe m, 4), (.zEStrobe m, 7)] : List (Instr × BitVec 4)), Runs p.1.micro s →
    xBus p.1.micro s = xBus (m.withZ (.norm .noop)) s
    ∧ ∃ t, exec p.1 s = .next t ∧ Emitted s t Event.isStrobe [.deviceStrobe p.2]

/-- <-ErrIBStk, where the microinstruction has a meaning, answers a next state with X[15:8] = 0, X[7:6] the smallest
signaled cause or ERR_NONE_READ, X[5:4] the complement of the buffer count, X[3:0] the complement of the stack
pointer; no signaled cause is cleared unless ClrIntErr is coded. <-RH answers a next state with X = {0x00, RH[rB]}.
Cites: R207, R208. -/
def Obligations.StatusReadRowsComplete : Prop :=
  ∀ (m : Micro) (s : State),
    (Runs (m.withZ (.input .errIBStk)) s →
      ∀ x, x = xBus (m.withZ (.input .errIBStk)) s →
        x.extractLsb' 8 8 = 0
        ∧ (s.errSet = ErrSet.empty → x.extractLsb' 6 2 = s.params.errNoneRead)
        ∧ (∀ c, s.errSet.has c = true → (∀ d, s.errSet.has d = true → (causeCode c).toNat ≤ (causeCode d).toNat) →
            x.extractLsb' 6 2 = (causeCode c))
        ∧ x.extractLsb' 4 2 = ~~~(s.ibPtr.count) ∧ x.extractLsb' 0 4 = ~~~s.stackP
        ∧ ∃ t, exec (.zErrIBStk m) s = .next t
          ∧ (m.clrIntErr = false → ∀ c, s.errSet.has c = true → t.errSet.has c = true))
    ∧ (Runs (m.withZ (.input .rh)) s → xBus (m.withZ (.input .rh)) s = 0#8 ++ rd s.rh m.rB
        ∧ ∃ t, exec (.zRH m) s = .next t)

/-- For <-ibNA, <-ib, <-ibLow and <-ibHigh, where the microinstruction has a meaning, X is the front byte or its low or
high nibble and exec answers a next state. Without a buffer load, the buffer consumes one byte if the form is <-ib or
<-ibLow or a dispatch is performed, else it is unchanged. On an Empty buffer cause IBEmpty is signaled, and in cycle 1
the buffer-empty latch is set. Cites: R209, R210, R211, R212, R314, R315, R320. -/
def Obligations.PeekRowsComplete : Prop :=
  ∀ (m : Micro) (s : State),
    ∀ p ∈ ([(.zIbNA m, 0#8 ++ s.ibFront, false), (.zIb m, 0#8 ++ s.ibFront, true),
            (.zIbLow m, 0#12 ++ s.ibFront.extractLsb' 0 4, true), (.zIbHigh m, 0#12 ++ s.ibFront.extractLsb' 4 4, false)] :
        List (Instr × Word × Bool)),
      Runs p.1.micro s → xBus p.1.micro s = p.2.1
        ∧ ∃ t, exec p.1 s = .next t
          ∧ (p.1.micro.ibLoad = false →
              t.ib = if p.2.2 = true ∨ (p.1.micro.planes.y? = some (.norm .ibDisp) ∧ s.ibPtr = .full) then s.ib.consume else s.ib)
          ∧ (s.ibPtr = .empty → t.errSet.ib = true ∧ (s.cycle = .c1 → t.ibEmptyLatch = true))
          ∧ (s.ibPtr ≠ .empty → t.errSet.ib = (s.errSet.ib && !p.1.micro.clrIntErr)
              ∧ (s.cycle ≠ .c3 → t.ibEmptyLatch = s.ibEmptyLatch))

/-- For LRot0, LRot12, LRot8 and LRot4, where the microinstruction has a meaning, exec answers a next state and X is the
start-of-cycle R[rA] with its nibbles rotated; with source pair D0, function ADD, write-back code 3, carry-in 0, rB =
rA and no address load, R[rA] is rotated in place. Cites: R213, R220, R221, R222, R223. -/
def Obligations.RotateRowsComplete : Prop :=
  ∀ (m : Micro) (s : State),
    ∀ p ∈ ([(.zLRot0 m, fun v => v), (.zLRot12 m, fun v => v.extractLsb' 0 4 ++ v.extractLsb' 4 12),
            (.zLRot8 m, fun v => v.extractLsb' 0 8 ++ v.extractLsb' 8 8),
            (.zLRot4 m, fun v => v.extractLsb' 0 12 ++ v.extractLsb' 12 4)] : List (Instr × (Word → Word))),
      Runs p.1.micro s → xBus p.1.micro s = p.2 (rd s.r m.rA)
        ∧ ∃ t, exec p.1 s = .next t
          ∧ (m.aS = .dz → m.aF = .add → p.1.micro.dest = .b → m.rB = m.rA → effCin p.1.micro s = false →
              addressLoadMode p.1.micro s = false → rd t.r m.rA = p.2 (rd s.r m.rA))

/-- uaddr=0xN, where the microinstruction has a meaning, answers a next state; the SU address is {rA, literal} and no
Z-plane function is coded; without U-address mode the address is {0, stackP}. X:RH<-, where it has a meaning, answers
a next state in which RH[rB] holds X[7:0] and every other RH register is unchanged. Cites: R216, R218. -/
def Obligations.UAddressAndRhLoadRowsComplete : Prop :=
  ∀ (m : Micro) (s : State),
    (∀ lo : BitVec 4, suAddr (m.withZ (.uaddr lo)) s = m.rA ++ lo
        ∧ (∀ op, (m.withZ (.uaddr lo)).zNormIs op = false) ∧ (m.withZ (.uaddr lo)).input? = none
        ∧ (Runs (m.withZ (.uaddr lo)) s → ∃ t, exec (.uaddr lo m) s = .next t))
    ∧ ((∀ lo, m.planes.z? ≠ some (.uaddr lo)) → suAddr m s = 0#4 ++ s.stackP)
    ∧ (Runs (m.withX .rhLoad) s → ∃ t, exec (.xRHLoad m) s = .next t
        ∧ rd t.rh m.rB = (xBus (m.withX .rhLoad) s).extractLsb' 0 8 ∧ ∀ j, j ≠ m.rB → rd t.rh j = rd s.rh j)

/-- In cycle 1 the mem row, where the microinstruction has a meaning, answers a next state with exactly one bus event, the
address-register load of {RH[rB], Y}, mapped if Map<- is coded, else physical. Page-cross holds exactly for the
physical form when PageCarry differs from the low bit of the function code; it sets modifier bit value 2 and the
latch, otherwise the latch keeps its value and the modifier is that of the other contributors. Cites: R231, R232,
R233. -/
def Obligations.AddressLoadInCycleOne : Prop :=
  ∀ (m : Micro) (s : State), s.cycle = .c1 → Runs m.withMem s →
    ∃ t, exec (.memCycle1 m) s = .next t
      ∧ Emitted s t Event.isBus
          [.loadAddressRegister (if m.mapLoad then .mapped else .physical) (rd s.rh m.rB ++ yBus m.withMem s)]
      ∧ (addressLoadMode m.withMem s = true ↔ m.mapLoad = false)
      ∧ ∀ cross : Prop, (cross ↔ m.mapLoad = false ∧ (aluOut m.withMem s).flags.pageCarry ≠ m.aF.code.getLsbD 0) →
          (cross → t.pageCrossLatch = true
            ∧ modifierOf t s.curTask = yBits m.withMem s ||| linkBits m.withMem s ||| 2)
          ∧ (¬ cross → t.pageCrossLatch = s.pageCrossLatch
            ∧ modifierOf t s.curTask = yBits m.withMem s ||| linkBits m.withMem s)

/-- In cycle 2 the mem row, where the microinstruction has a meaning, answers a next state. With both latches clear its
one bus event is the data-register load of Y; with either latch set there is no bus event and no memory cause; the
register writes and the next address are the same in both cases. The click step clears both latches. Cites: R234,
R235. -/
def Obligations.DataLoadInCycleTwo : Prop :=
  ∀ (m : Micro) (s : State), s.cycle = .c2 → Runs m.withMem s →
    ∃ t, exec (.memCycle2 m) s = .next t
      ∧ (s.pageCrossLatch = false → s.ibEmptyLatch = false →
          Emitted s t Event.isBus [.loadDataRegister (yBus m.withMem s)])
      ∧ ((s.pageCrossLatch = true ∨ s.ibEmptyLatch = true) → Emitted s t Event.isBus [])
      ∧ t.errSet.memory = (s.errSet.memory && !m.clrIntErr)
      ∧ t.r = nextR m.withMem s ∧ t.q = nextQ m.withMem s ∧ rd t.tpc s.curTask.id = nextAddr m.withMem s
      ∧ ∀ u, (clickStep u).pageCrossLatch = false ∧ (clickStep u).ibEmptyLatch = false

/-- In cycle 3 the mem row, where the microinstruction has a meaning, answers a next state with no bus event. With no
higher X source coded, X is the word the environment answers to the current task, valid or not. If the answer is
invalid cause MemoryFault is signaled; if valid it is signaled only if it was and is not cleared. The latches cancel
nothing. Cites: R69, R196, R236. -/
def Obligations.DataReadInCycleThree : Prop :=
  ∀ (m : Micro) (s : State), s.cycle = .c3 → Runs m.withMem s →
    (m.const? = none → (∀ op, m.input? = some op → op.drives = false) → m.rotAmount = none → m.suRead = false →
        xBus m.withMem s = (rd s.inputs.data s.curTask.id).value)
    ∧ ∃ t, exec (.memCycle3 m) s = .next t ∧ Emitted s t Event.isBus []
      ∧ ((rd s.inputs.data s.curTask.id).valid = false → t.errSet.memory = true)
      ∧ ((rd s.inputs.data s.curTask.id).valid = true → t.errSet.memory = (s.errSet.memory && !m.clrIntErr))

/-- Wherever the microinstruction has a meaning, each of the three mem rows answers a next state, whatever the cycle, and
all three answer the same one. MemoryFault is raised only by mem in cycle 3 with an invalid answer. Cites: R67, R237,
R238, R239. -/
def Obligations.MemRowsFollowTheCycle : Prop :=
  ∀ (m : Micro) (s : State),
    (Runs m.withMem s → ∃ t, exec (.memCycle1 m) s = .next t ∧ exec (.memCycle2 m) s = .next t ∧ exec (.memCycle3 m) s = .next t)
    ∧ (Cause.memoryFault ∈ cycleRaises m s ↔
        m.mem = true ∧ s.cycle = .c3 ∧ (rd s.inputs.data s.curTask.id).valid = false)

/-- Both rows answer a next state in every state. ExitKernel in cycle 1 sets the exit signal and clears the Kernel's wake
flag; in cycle 2 or 3 it changes no wake flag, and in cycle 2 not the signal. EnterKernel sets the Kernel's wake flag
and no other and clears waiting; in cycle 3 the click step then gives the Kernel the processor. Cites: R250, R251. -/
def Obligations.KernelRowsComplete : Prop :=
  ∀ (m : Micro) (s : State),
    (∃ t, exec (.yExitKernel m) s = .next t
      ∧ (s.cycle = .c1 → t.kernelExit = true ∧ rd t.wake 7 = false ∧ ∀ k, k ≠ 7 → rd t.wake k = rd s.wake k)
      ∧ (s.cycle = .c2 → t.kernelExit = s.kernelExit) ∧ (s.cycle ≠ .c1 → t.wake = s.wake))
    ∧ ∃ t, exec (.yEnterKernel m) s = .next t ∧ rd t.wake 7 = true ∧ (∀ k, k ≠ 7 → rd t.wake k = rd s.wake k)
      ∧ t.waiting = false ∧ (s.cycle = .c3 → t.curTask = .kernel)

/-- Both rows answer a next state in every state. After ClrIntErr the macro-interrupt bit is 0 and the signaled causes are
exactly those the same instruction raises; a running countdown is not changed by it. After MesaIntRq the macro-
interrupt bit is 1 and no cause is cleared. Cites: R252, R254. -/
def Obligations.InterruptRowsComplete : Prop :=
  ∀ (m : Micro) (s : State),
    (∃ t, exec (.yClrIntErr m) s = .next t ∧ t.mint = false
      ∧ (∀ c, t.errSet.has c = true ↔ c ∈ cycleRaises (m.withY (.norm .clrIntErr)) s)
      ∧ (s.trapCount ≠ 0 → ¬ EmulatorClickEnd s → t.trapCount = s.trapCount)
      ∧ (s.trapCount ≠ 0 → EmulatorClickEnd s → t.trapCount = s.trapCount - 1))
    ∧ ∃ t, exec (.yMesaIntRq m) s = .next t ∧ t.mint = true ∧ ∀ c, s.errSet.has c = true → t.errSet.has c = true

/-- Both rows answer a next state in every state. After stackP<- the pointer is Y[3:0], whatever push or pop is coded.
Map<- with mem in cycle 1 emits one mapped address load, keeps the ALU out of address-load mode and leaves the page-
cross latch; without mem, or in cycle 2 or 3, it answers what the idle Y plane answers. Cites: R240, R255, R259. -/
def Obligations.StackLoadAndMapRowsComplete : Prop :=
  ∀ (m : Micro) (s : State),
    (∃ t, exec (.yStackPLoad m) s = .next t ∧ t.stackP = (yBus (m.withY (.norm .stackPLoad)) s).extractLsb' 0 4
      ∧ (t.errSet.stack = true ↔ s.errSet.stack = true ∨ Cause.stackOverUnderflow ∈ cycleRaises (m.withY (.norm .stackPLoad)) s))
    ∧ (∃ t, exec (.yMap m) s = .next t
      ∧ (m.mem = true → s.cycle = .c1 → addressLoadMode (m.withY (.norm .map)) s = false ∧ t.pageCrossLatch = s.pageCrossLatch
          ∧ Emitted s t Event.isBus [.loadAddressRegister .mapped (rd s.rh m.rB ++ yBus (m.withY (.norm .map)) s)]))
    ∧ (¬ (m.mem = true ∧ s.cycle = .c1) → exec (.yMap m) s = exec (.yNoop m) s)

/-- ClrDPRq, ClrIOPRq, ClrKFlags and Y:Refresh answer a next state in every state, Z:Refresh wherever the microinstruction
has a meaning. Each clear emits its one ClearRequest event, each refresh row exactly one Refresh event, also when both
planes code it. The clears and Y:Refresh leave every wake flag; Z:Refresh leaves them unless the Y plane of the same
instruction codes EnterKernel or ExitKernel. Cites: R257, R260, R261, R262, R264. -/
def Obligations.RequestAndRefreshRowsComplete : Prop :=
  ∀ (m : Micro) (s : State),
    (∀ p ∈ ([(.yClrDPRq m, .display), (.yClrIOPRq m, .iop), (.yClrKFlags m, .diskFlags)] : List (Instr × Requester)),
        ∃ t, exec p.1 s = .next t ∧ Emitted s t Event.isClear [.clearRequest p.2] ∧ t.wake = s.wake)
    ∧ (∃ t, exec (.yRefresh m) s = .next t ∧ Emitted s t Event.isRefresh [.refresh] ∧ t.wake = s.wake)
    ∧ ∀ n, n = m.withZ (.norm .refresh) → Runs n s →
        ∃ t, exec (.zRefresh m) s = .next t ∧ Emitted s t Event.isRefresh [.refresh]
          ∧ (n.enterKernel = false → n.exitKernel = false → t.wake = s.wake)

/-- Wherever the microinstruction has a meaning each Noop row and each reserved row of the three planes answers a next
state; a reserved row answers the state its plane's Noop answers. X:Noop: no link is written or read into the
modifier, RH is unchanged, F goes to R[rB] and Q by aD alone (write-back codes 0 to 3), the carry-in is the raw bit
and pc16 is unchanged unless Z:Cin<-pc16 is effective, pointer and stack cause are unchanged without a stack operation
of Y or Z, and no event is emitted if the other planes are idle too and mem is 0. Y:Noop: wake flags, waiting, macro
interrupt and (before a click boundary) the exit signal are unchanged, signaled causes stay, no device write, request
clear or refresh of its own is emitted, an address load is physical, no dispatch is requested, the Y plane adds no
modifier bits, pointer and stack cause change only by X or Z, buffer and buffer cause only by Z. Z:Noop: the X bus has
no input, rotate or nibble source, the SU address is the stack entry, no strobe and no refresh of its own is emitted,
carry-in and pc16 change only by X, pointer and stack cause only by X or Y, buffer, merge rule and buffer cause only
by Y. Cites: R111, R112. -/
def Obligations.IdleAndReservedRowsComplete : Prop :=
  ∀ (m : Micro) (s : State),
    (∀ n, n = m.withX .noop → Runs n s → ∃ t, exec (.xNoop m) s = .next t ∧ exec (.xReserved m) s = .next t
        ∧ t.link = s.link ∧ t.rh = s.rh
        ∧ t.r = (if n.aD = .ba ∨ n.aD = .b then wr s.r n.rB (aluF n s) else s.r)
        ∧ t.q = (if n.aD = .q then aluF n s else s.q)
        ∧ (¬ EmulatorClickEnd s → modifierOf t s.curTask = yBits n s ||| (if pageCrossNow n s then 2 else 0))
        ∧ (¬ (n.cinToggleZ = true ∧ n.cin = true) → effCin n s = n.cin ∧ t.pc16 = s.pc16)
        ∧ (n.pushY = false → n.pushZ = false → n.popY = false → n.popZ = false → n.loadStackP = false →
            t.stackP = s.stackP ∧ t.errSet.stack = (s.errSet.stack && !n.clrIntErr))
        ∧ (n.planes = .yz (.norm .noop) (.norm .noop) → n.mem = false → t.events = s.events))
    ∧ (∀ n, n = m.withY (.norm .noop) → ∃ t, exec (.yNoop m) s = .next t ∧ exec (.yReserved m) s = .next t
        ∧ t.wake = s.wake ∧ t.waiting = s.waiting ∧ t.mint = s.mint
        ∧ (s.cycle ≠ .c3 → t.kernelExit = s.kernelExit)
        ∧ (∀ c, s.errSet.has c = true → t.errSet.has c = true)
        ∧ Emitted s t (fun e => e.isDeviceWrite || e.isClear) []
        ∧ (n.zNormIs .refresh = false → Emitted s t Event.isRefresh [])
        ∧ (n.mem = true → s.cycle = .c1 →
            Emitted s t Event.isBus [.loadAddressRegister .physical (rd s.rh n.rB ++ yBus n s)])
        ∧ (¬ EmulatorClickEnd s → modifierOf t s.curTask = (if pageCrossNow n s then 2 else 0) ||| linkBits n s)
        ∧ (n.alwaysDisp = false → t.pendKind = .plain ∧ (n.peeks = false → t.ib = s.ib ∧ t.errSet.ib = s.errSet.ib))
        ∧ (n.pushX = false → n.pushZ = false → n.popX = false → n.popZ = false →
            t.stackP = s.stackP ∧ t.errSet.stack = s.errSet.stack))
    ∧ (∀ n, n = m.withZ (.norm .noop) → Runs n s → ∃ t, exec (.zNoop m) s = .next t
        ∧ (∀ i ∈ ([.zReserved1 m, .zReserved2 m, .zReserved4 m, .zReserved9 m, .zReservedA m, .zReservedB m] : List Instr),
            exec i s = .next t)
        ∧ Emitted s t Event.isStrobe [] ∧ (n.yNormIs .refresh = false → Emitted s t Event.isRefresh [])
        ∧ suAddr n s = 0#4 ++ s.stackP
        ∧ xBus n s = (if n.suRead = true then rd s.su (0#4 ++ s.stackP)
            else if n.mem = true ∧ s.cycle = .c3 then (rd s.inputs.data s.curTask.id).value else s.params.xbusIdle)
        ∧ (n.cinToggleX = false → effCin n s = n.cin ∧ t.pc16 = s.pc16)
        ∧ (n.yNormIs .ibDisp = false → t.pendKind = .plain ∧ (n.ibLoad = false → t.ib = s.ib))
        ∧ t.errSet.ib = (s.errSet.ib && !n.clrIntErr)
        ∧ (n.pushX = false → n.pushY = false → n.popX = false → n.popY = false → n.loadStackP = false →
            t.stackP = s.stackP ∧ t.errSet.stack = (s.errSet.stack && !n.clrIntErr)))

/-- For each of the sixteen IOOut codes exec answers a next state in every state, with exactly one device-write event, to
port fY with the Y bus of the cycle; the wake flags and the macro interrupt are unchanged, and the instruction buffer
is unless the Z plane consumes. Cites: R290, R291, R292, R293, R294, R295, R296, R297, R298, R299, R300, R301. -/
def Obligations.DeviceWriteRowsComplete : Prop :=
  ∀ (m : Micro) (s : State),
    ∀ p ∈ ([(.yIOPOData m, 0), (.yIOPCtl m, 1), (.yKOData m, 2), (.yKCtl m, 3), (.yEOData m, 4), (.yEICtl m, 5),
            (.yDCtlFifo m, 6), (.yDCtl m, 7), (.yDBorder m, 8), (.yPCtl m, 9), (.yMCtl m, 10), (.yOut11 m, 11),
            (.yEOCtl m, 12), (.yKCmd m, 13), (.yOut14 m, 14), (.yPOData m, 15)] : List (Instr × BitVec 4)),
      ∃ t, exec p.1 s = .next t ∧ Emitted s t Event.isDeviceWrite [.deviceWrite p.2 (yBus p.1.micro s)]
        ∧ t.wake = s.wake ∧ t.mint = s.mint
        ∧ (p.1.micro.peekAdvances = false → p.1.micro.alwaysDisp = false → t.ib = s.ib)

/-- For each of the eight one-bit branches exec answers a next state in every state. Unless the cycle ends an Emulator
click, where the error trap may fire, the modifier the task uses next is the branch's bit ORed with the page-cross bit
and the link return of the same instruction; the flags tested are those of this cycle. Cites: R270, R271, R272, R273,
R274, R275, R276, R277. -/
def Obligations.OneBitBranchRowsComplete : Prop :=
  ∀ (m : Micro) (s : State),
    ∀ p ∈ ([(.yNegBr m, fun m => (aluOut m s).flags.negative),
            (.yZeroBr m, fun m => (aluOut m s).flags.zero),
            (.yNZeroBr m, fun m => !(aluOut m s).flags.zero),
            (.yMesaIntBr m, fun _ => s.mint),
            (.yPgCarryBr m, fun m => (aluOut m s).flags.pageCarry),
            (.yCarryBr m, fun m => (aluOut m s).flags.carryOut),
            (.yXRefBr m, fun m => (xBus m s).getLsbD 4),
            (.yNibCarryBr m, fun m => (aluOut m s).flags.nibbleCarry)] : List (Instr × (Micro → Bool))),
      ∃ t, exec p.1 s = .next t
        ∧ (¬ EmulatorClickEnd s → modifierOf t s.curTask
            = (if p.2 p.1.micro then 1 else 0) ||| (if pageCrossNow p.1.micro s then 2 else 0) ||| linkBits p.1.micro s)

/-- For each of the eight dispatches exec answers a next state in every state. Unless the cycle ends an Emulator click,
the modifier the task uses next is the dispatch's four bits (nibbles of X or Y, single bits of them, the cycle and
pc16, the device dispatch signals, page-cross and overflow) ORed with the page-cross bit and the link return of the
same instruction. Cites: R278, R279, R280, R281, R282, R283, R284, R285. -/
def Obligations.DispatchRowsComplete : Prop :=
  ∀ (m : Micro) (s : State),
    ∀ p ∈ ([(.yXDisp m, fun m => (xBus m s).extractLsb' 0 4),
            (.yYDisp m, fun m => (yBus m s).extractLsb' 0 4),
            (.yXC2npcDisp m, fun m => BitVec.ofBool ((xBus m s).getLsbD 3) ++ BitVec.ofBool ((xBus m s).getLsbD 2) ++ BitVec.ofBool (decide (s.cycle = .c2)) ++ BitVec.ofBool (!s.pc16)),
            (.yYIODisp m, fun m => BitVec.ofBool ((yBus m s).getLsbD 3) ++ BitVec.ofBool ((yBus m s).getLsbD 2) ++ s.inputs.ioDisp),
            (.yXwdDisp m, fun m => 0#2 ++ BitVec.ofBool ((xBus m s).getLsbD 6) ++ BitVec.ofBool ((xBus m s).getLsbD 5)),
            (.yXHDisp m, fun m => 0#2 ++ BitVec.ofBool ((xBus m s).getLsbD 11) ++ BitVec.ofBool ((xBus m s).getLsbD 15)),
            (.yXLDisp m, fun m => 0#2 ++ BitVec.ofBool ((xBus m s).getLsbD 7) ++ BitVec.ofBool ((xBus m s).getLsbD 0)),
            (.yPgCrOvDisp m, fun m => 0#2 ++ BitVec.ofBool (pageCrossNow m s || s.pageCrossLatch) ++ BitVec.ofBool ((aluOut m s).flags.overflow))] : List (Instr × (Micro → Nibble))),
      ∃ t, exec p.1 s = .next t
        ∧ (¬ EmulatorClickEnd s → modifierOf t s.curTask
            = p.2 p.1.micro ||| (if pageCrossNow p.1.micro s then 2 else 0) ||| linkBits p.1.micro s)

/-- For each of the eight link codes, where the microinstruction has a meaning, exec answers a next state. With bit 4 of
the computed next address 0, its Link register takes the low nibble of that address and the modifier gets nothing from
it; with bit 4 set, no link register changes and the start-of-cycle Link value is ORed into the modifier (unless the
cycle ends an Emulator click, where the trap may fire). Other link registers never change. Cites: R356, R357, R359,
R360, R361, R362, R363, R364, R365, R366. -/
def Obligations.LinkRowsComplete : Prop :=
  ∀ (m : Micro) (s : State),
    ∀ p ∈ ([(.xLink0 m, 0), (.xLink1 m, 1), (.xLink2 m, 2), (.xLink3 m, 3), (.xLink4 m, 4), (.xLink5 m, 5),
            (.xLink6 m, 6), (.xLink7 m, 7)] : List (Instr × BitVec 3)),
      Runs p.1.micro s →
        ∃ t, exec p.1 s = .next t ∧ (∀ j, j ≠ p.2 → rd t.link j = rd s.link j)
          ∧ ((nextAddr p.1.micro s).getLsbD 4 = false →
              rd t.link p.2 = (nextAddr p.1.micro s).extractLsb' 0 4
              ∧ (¬ EmulatorClickEnd s → modifierOf t s.curTask
                  = yBits p.1.micro s ||| (if pageCrossNow p.1.micro s then 2 else 0)))
          ∧ ((nextAddr p.1.micro s).getLsbD 4 = true →
              rd t.link p.2 = rd s.link p.2
              ∧ (¬ EmulatorClickEnd s → modifierOf t s.curTask
                  = yBits p.1.micro s ||| (if pageCrossNow p.1.micro s then 2 else 0) ||| rd s.link p.2))

/-- Whenever any instruction answers a next state and the cycle does not end an Emulator click, the current task's program
counter becomes: INIA ORed with the modifier under the plain rule or with a trap pending; the address with the
dispatch byte merged in under a pending dispatch; the kept bits of INIA with the refill target under a pending refill.
The goto row completes wherever the microinstruction has a meaning, with its own literal as INIA. Cites: R351, R352,
R353, R354. -/
def Obligations.NextAddressFollowsTheMergeRule : Prop :=
  (∀ (i : Instr) (s t : State), exec i s = .next t → ¬ EmulatorClickEnd s →
      ∀ b : MAddr, b = i.micro.inia ||| (0#8 ++ s.niax) →
        rd t.tpc s.curTask.id =
          if s.trapCount ≠ 0 then b
          else match s.pendKind with
            | .plain => b
            | .ibDisp v => b.extractLsb' 8 4 ++ v.extractLsb' 4 4 ++ (b.extractLsb' 0 4 ||| v.extractLsb' 0 4)
            | .refill e k => (i.micro.inia &&& s.params.refillKeep) ||| s.params.refillTarget e k)
    ∧ ∀ (m : Micro) (s : State) (a : MAddr), Runs (m.withInia a) s →
        ∃ t, exec (.gotoInia a m) s = .next t
          ∧ (¬ EmulatorClickEnd s → s.pendKind = .plain → rd t.tpc s.curTask.id = a ||| (0#8 ++ s.niax))

/-- Reading the buffer as the list of its bytes: a consume step removes the first byte (nothing at Empty), a load into an
Empty or Byte buffer appends the high byte and then the low byte of the word, the front byte is the first of the list,
and the pointer is its length. Cites: R310, R311, R312, R314, R322. -/
def Obligations.BufferIsAByteQueue : Prop :=
  (∀ b : IbData, ibBytes b.consume = (ibBytes b).tail)
    ∧ (∀ (b : IbData) (x : Word), b.ptr = .empty ∨ b.ptr = .byte →
        ibBytes (b.load x) = ibBytes b ++ [x.extractLsb' 8 8, x.extractLsb' 0 8])
    ∧ ∀ b : IbData, (ibBytes b).length = b.ptr.count.toNat ∧ (b.ptr ≠ .empty → (ibBytes b).head? = some b.front)

/-- With the buffer Empty and no consume coded, IB<- answers a next state with the high byte of X in front, X in the pair
and the pointer Word; with the buffer at Byte, a next state with the front byte kept, X in the pair and the pointer
Full. Cites: R312. -/
def Obligations.BufferLoadRowCompletes : Prop :=
  ∀ (m : Micro) (s : State) (n : Micro), n = m.withY (.norm .ibLoad) → n.alwaysDisp = false → n.peekAdvances = false →
    (s.ibPtr = .empty → ∃ t, exec (.yIBLoad m) s = .next t ∧ t.ibFront = (xBus n s).extractLsb' 8 8 ∧ t.ibPair = xBus n s
        ∧ t.ibPtr = .word)
    ∧ (s.ibPtr = .byte → ∃ t, exec (.yIBLoad m) s = .next t ∧ t.ibFront = s.ibFront ∧ t.ibPair = xBus n s ∧ t.ibPtr = .full)

/-- For every instruction and state: exec answers a fault never; it refuses exactly when the word codes IB<- and either
also codes AlwaysIBDisp or an advancing peek form, or the buffer is Word or Full; the refusal says which. Cites: R313,
93_implementation_defined.md U7. -/
def Obligations.BufferLoadWithoutEffectIsRefused : Prop :=
  ∀ (i : Instr) (s : State),
    (∀ f, exec i s ≠ .fault f)
    ∧ (exec i s = .refused .ibLoadWithConsume
        ↔ i.micro.ibLoad = true ∧ (i.micro.alwaysDisp = true ∨ i.micro.peekAdvances = true))
    ∧ (exec i s = .refused .ibLoadWithoutRoom
        ↔ i.micro.ibLoad = true ∧ i.micro.alwaysDisp = false ∧ i.micro.peekAdvances = false
          ∧ (s.ibPtr = .word ∨ s.ibPtr = .full))
    ∧ ∀ k, exec i s ≠ .refused (.notModelled k)

/-- IBDisp answers a next state in every state, AlwaysIBDisp wherever the microinstruction has a meaning. A dispatch is
performed if the buffer is Full or AlwaysIBDisp is coded: one byte is consumed and the next merge is by the front
byte; AlwaysIBDisp on Empty signals IBEmpty. Otherwise nothing is consumed unless a peek form advances, no cause is
raised by the request, and the next merge is the refill with e = buffer Empty, m = macro interrupt. The merge rule is
what the next instruction finds before a click boundary, and at one where the task is kept (R384; at the end of an
Emulator click the error trap may intervene, see ErrorTrapIsTakenByTheEmulator; a switch makes it plain, see
TasksSwitchOnlyAtClickBoundaries). The refill targets at reset are the spec's own defaults, as R318 prints them
(notes/assumptions/5.md). Cites: R316, R317, R318, R319, R384, notes/assumptions/5.md. -/
def Obligations.DispatchRequestRowsComplete : Prop :=
  (∀ (m : Micro) (s : State) (n : Micro), n = m.withY (.norm .ibDisp) →
      ∃ t, exec (.yIBDisp m) s = .next t
        ∧ ((s.ibPtr = .full ∨ n.alwaysDisp = true) → t.ib = s.ib.consume
            ∧ ((s.cycle ≠ .c3 ∨ t.curTask = s.curTask ∧ s.curTask ≠ .emulator) → t.pendKind = .ibDisp s.ibFront))
        ∧ (¬ (s.ibPtr = .full ∨ n.alwaysDisp = true) →
            t.ib = (if n.peekAdvances = true then s.ib.consume else s.ib)
            ∧ (n.peeks = false → t.errSet.ib = s.errSet.ib)
            ∧ ((s.cycle ≠ .c3 ∨ t.curTask = s.curTask ∧ s.curTask ≠ .emulator) →
                t.pendKind = .refill (decide (s.ibPtr = .empty)) s.mint)))
    ∧ (∀ (m : Micro) (s : State), Runs (m.withZ (.norm .alwaysIBDisp)) s →
        ∃ t, exec (.zAlwaysIBDisp m) s = .next t ∧ t.ib = s.ib.consume
          ∧ ((s.cycle ≠ .c3 ∨ t.curTask = s.curTask ∧ s.curTask ≠ .emulator) → t.pendKind = .ibDisp s.ibFront)
          ∧ (s.ibPtr = .empty → t.errSet.ib = true))
    ∧ Params.specDefault.refillKeep = 0xC00
    ∧ ∀ e k : Bool, Params.specDefault.refillTarget e k = 0#2 ++ BitVec.ofBool (!e) ++ BitVec.ofBool k ++ 0#8

/-- Whenever any instruction answers a next state: with stackP<- coded the pointer is Y[3:0]; otherwise it is the old
pointer plus one if any push is coded minus one if any pop is coded, modulo 16. StackOverUnderflow is raised exactly
by a push at 15, exactly one pop at 0, or two or three pops at 0 or 1, on the old pointer; after the cycle the cause
is signaled if raised, or if it was signaled and not cleared. Cites: R333, R334, R335, R336, R343. -/
def Obligations.StackPointerRule : Prop :=
  (∀ (i : Instr) (s t : State), exec i s = .next t →
      (i.micro.loadStackP = true → t.stackP = (yBus i.micro s).extractLsb' 0 4)
      ∧ (i.micro.loadStackP = false → (t.stackP.toNat : Int)
          = ((s.stackP.toNat : Int) + (if 0 < i.micro.pushCount then 1 else 0) - (if 0 < i.micro.popCount then 1 else 0)) % 16)
      ∧ (t.errSet.stack = true ↔ Cause.stackOverUnderflow ∈ cycleRaises i.micro s
          ∨ (s.errSet.stack = true ∧ i.micro.clrIntErr = false)))
    ∧ ∀ (m : Micro) (s : State), Cause.stackOverUnderflow ∈ cycleRaises m s ↔
        (0 < m.pushCount ∧ s.stackP = 15) ∨ (m.popCount = 1 ∧ s.stackP = 0) ∨ (2 ≤ m.popCount ∧ s.stackP.toNat ≤ 1)

/-- For each push row, where the microinstruction has a meaning, exec answers a next state; with no other push, no pop and
no direct load coded the pointer rises by one and at 15 becomes 0 with the cause signaled. For each pop row likewise
downwards: at 0 it becomes 15 with the cause signaled. Cites: R333, R334, R335, R337, R338, R341, R342, R258, R263. -/
def Obligations.StackRowsComplete : Prop :=
  ∀ (m : Micro) (s : State),
    (∀ i ∈ ([.xPush m, .yPush m, .zPush m] : List Instr), Runs i.micro s →
        ∃ t, exec i s = .next t
          ∧ (i.micro.popCount = 0 → i.micro.loadStackP = false → t.stackP = s.stackP + 1
              ∧ (s.stackP = 15 → t.stackP = 0 ∧ t.errSet.stack = true)))
    ∧ ∀ i ∈ ([.xPop m, .yPop m, .zPop m] : List Instr), Runs i.micro s →
        ∃ t, exec i s = .next t
          ∧ (i.micro.pushCount = 0 → i.micro.loadStackP = false → t.stackP = s.stackP - 1
              ∧ (i.micro.popCount = 1 → s.stackP = 0 → t.stackP = 15 ∧ t.errSet.stack = true))

/-- raise Err(c) leaves every field but the cause set and the countdown; the set afterwards holds c and what it held; the
countdown becomes TRAP_DELAY of the cause and cycle if it was 0 and is unchanged otherwise. The error code read is the
smallest signaled cause. Whatever an instruction raises, its register writes, pointer, links, carry bit and buffer are
those of the cycle without the raises, and so are the next address and the modifier of its task, unless the cycle ends
an Emulator click (what the trap does there: ErrorTrapIsTakenByTheEmulator). Cites: R403, R404, R406. -/
def Obligations.RaiseRecordsAndSchedules : Prop :=
  (∀ (c : Cause) (s : State),
      (∀ d, (raiseErr c s).errSet.has d = (s.errSet.has d || decide (d = c)))
      ∧ (raiseErr c s).trapCount = (if s.trapCount = 0 then (s.params.trapDelay c s.cycle).count else s.trapCount)
      ∧ { raiseErr c s with errSet := s.errSet, trapCount := s.trapCount } = s)
    ∧ (∀ (e : ErrSet) (c : Cause),
        e.errCode = some (causeCode c) ↔ e.has c = true ∧ ∀ d, e.has d = true → (causeCode c).toNat ≤ (causeCode d).toNat)
    ∧ ∀ (i : Instr) (s t : State), exec i s = .next t →
        t.r = nextR i.micro s ∧ t.q = nextQ i.micro s ∧ t.su = nextSu i.micro s ∧ t.stackP = nextStackP i.micro s
        ∧ t.rh = nextRh i.micro s ∧ t.link = nextLink i.micro s ∧ t.ib = nextIb i.micro s
        ∧ t.pc16 = (if i.micro.cinToggle then !s.pc16 else s.pc16)
        ∧ (¬ EmulatorClickEnd s → rd t.tpc s.curTask.id = nextAddr i.micro s ∧ modifierOf t s.curTask = niaxOut i.micro s)
        ∧ ∀ c, t.errSet.has c = ((s.errSet.has c && !i.micro.clrIntErr) || decide (c ∈ cycleRaises i.micro s))

/-- For every instruction that answers a next state, let n be the countdown after its raises. Unless the cycle ends an
Emulator click the countdown is n. At the end of an Emulator click: n = 0 stays 0; n = 1 becomes 0 and the trap is
taken: TPC[0] = 0, the Emulator's modifier 0, the merge rule plain, the cause set kept; n of 2 or more becomes n - 1.
Only at the end of an Emulator click with n = 1 is the Emulator's counter anything but its computed next address, or
its modifier anything but the one computed; without the trap and with the Emulator kept the merge rule carries over.
Cites: R408, R409. -/
def Obligations.ErrorTrapIsTakenByTheEmulator : Prop :=
  ∀ (i : Instr) (s t : State), exec i s = .next t →
    ∀ n : Nat, n = (if s.trapCount ≠ 0 then s.trapCount
        else match (cycleRaises i.micro s).head? with
          | some c => (s.params.trapDelay c s.cycle).count
          | none => 0) →
      (¬ EmulatorClickEnd s → t.trapCount = n)
      ∧ (EmulatorClickEnd s →
          t.trapCount = n - 1
          ∧ (n = 1 → rd t.tpc 0 = 0 ∧ modifierOf t .emulator = 0 ∧ t.pendKind = .plain)
          ∧ (n ≠ 1 → rd t.tpc 0 = nextAddr i.micro s ∧ modifierOf t .emulator = niaxOut i.micro s
              ∧ (t.curTask = .emulator → t.pendKind = pendKindOut i.micro s)))
      ∧ ∀ c, t.errSet.has c = ((s.errSet.has c && !i.micro.clrIntErr) || decide (c ∈ cycleRaises i.micro s))

/-- For every instruction that answers a next state: before cycle 3 only the cycle counter of the sequencing state
advances. After cycle 3 the cycle is 1, the click advances modulo 5, the latches and the exit signal are clear, and
the next task is the Kernel if it is current without exit signal or is woken, else the click-mapped task if woken,
else the Emulator. On a switch the modifier is saved in TC of the old task, the new task's is restored, and the merge
rule is plain; otherwise TC is unchanged and the modifier and merge rule of the cycle carry over into the next click
(at the end of an Emulator click, where the error trap may fire, ErrorTrapIsTakenByTheEmulator says when they do).
Cites: R374, R381, R382, R384. -/
def Obligations.TasksSwitchOnlyAtClickBoundaries : Prop :=
  ∀ (i : Instr) (s t : State), exec i s = .next t →
    (s.cycle ≠ .c3 → t.curTask = s.curTask ∧ t.click = s.click ∧ t.tc = s.tc
        ∧ t.cycle = (if s.cycle = .c1 then .c2 else .c3) ∧ t.niax = niaxOut i.micro s ∧ t.pendKind = pendKindOut i.micro s)
    ∧ (s.cycle = .c3 →
        t.cycle = .c1 ∧ t.click.val = (s.click.val + 1) % 5 ∧ t.pageCrossLatch = false ∧ t.ibEmptyLatch = false
        ∧ t.kernelExit = false
        ∧ (∀ k, k = ClickSlot.task s.params.clickMap[t.click] s.inputs.displayEnabled →
            t.curTask = if s.curTask = .kernel ∧ s.kernelExit = false then .kernel
              else if rd t.wake (Task.id .kernel) then .kernel else if rd t.wake k.id then k else .emulator)
        ∧ (t.curTask = s.curTask → t.tc = s.tc
            ∧ (¬ EmulatorClickEnd s → t.niax = niaxOut i.micro s ∧ t.pendKind = pendKindOut i.micro s))
        ∧ (t.curTask ≠ s.curTask → t.niax = rd s.tc t.curTask.id ∧ t.pendKind = .plain
            ∧ (∀ k, k ≠ s.curTask.id → rd t.tc k = rd s.tc k)
            ∧ (¬ EmulatorClickEnd s → rd t.tc s.curTask.id = niaxOut i.micro s)))

/-- For every state: that the Kernel is current, that no exit is signaled, that no control-store word codes ExitKernel and
that the coming script writes no control-store word are together kept by every step that answers a next state,
whatever tasks are woken and whatever other acts the script holds; so after any number of steps the Kernel is still
current. The script may hold the reset act. That no word codes ExitKernel after a reset rests on the model's reading
that a reset keeps the control store (notes/assumptions/11.md, DEDUCED, unsafe), which none of the cited rules says;
for scripts without a reset act nothing here rests on it. Cites: R381, R387, R47, 95_test_vectors.md T7,
notes/assumptions/11.md. -/
def Obligations.KernelKeepsTheProcessor : Prop :=
  (∀ s t : State, s.curTask = .kernel → s.kernelExit = false → neverExits s → scriptLeavesStore s.script = true →
      step s = .next t → t.curTask = .kernel ∧ t.kernelExit = false ∧ neverExits t ∧ scriptLeavesStore t.script = true)
    ∧ ∀ (n : Nat) (s t : State), s.curTask = .kernel → s.kernelExit = false → neverExits s →
        scriptLeavesStore s.script = true → Sys2Proof.core.run n s = .next t → t.curTask = .kernel

/-- For every state whose coming script contains no CSWrite, every step that answers a next state leaves every control-
store word as it was and a script without CSWrite; so does any number of steps. The script may hold the reset act.
That a reset keeps the control store is the model's reading (notes/assumptions/11.md, DEDUCED, unsafe), which none of
the cited rules says; for scripts without a reset act nothing here rests on it. A CSWrite on a canonical store makes
the written word the one read at its address and leaves every other address. Cites: R39, R60, R62, R63,
notes/assumptions/11.md. -/
def Obligations.ControlStoreIsWrittenOnlyFromOutside : Prop :=
  (∀ s t : State, scriptLeavesStore s.script = true → step s = .next t →
      scriptLeavesStore t.script = true ∧ ∀ a : MAddr, csRead t a = csRead s a)
    ∧ (∀ (n : Nat) (s t : State), scriptLeavesStore s.script = true → Sys2Proof.core.run n s = .next t →
        ∀ a : MAddr, csRead t a = csRead s a)
    ∧ ∀ (s : State) (a b : MAddr) (w : MWord), Memory.wf s.cs = true →
        csRead (csWrite a w s) b = (if b = a then w else csRead s b) ∧ Memory.wf (csWrite a w s).cs = true

/-- For every state and task: TPCWriteHigh replaces bits 11..8 of TPC[t] by the low nibble of its byte, TPCWriteLow bits
7..0, neither touching TC nor another task's counter; TPCReadHigh reads {TC, TPC[11:8]}, TPCReadLow TPC[7:0]; WakeTask
sets the task's flag and clears waiting; SleepTask clears the flag and leaves waiting and the current task. A reset,
by itself or as the next entry of the script, puts every register of R49 at its reset value, so that the machine waits
again; it keeps the control store. That it keeps the control store and the model's own fields (parameters, answers,
script, events) is the model's reading (notes/assumptions/11.md). Cites: R74, R415, R416, R49, R450,
notes/assumptions/11.md. -/
def Obligations.EnvironmentPortsFollowTheRules : Prop :=
  ∀ (s : State) (k : Task) (b : Byte),
    rd (tpcWriteHigh k b s).tpc k.id = b.extractLsb' 0 4 ++ (rd s.tpc k.id).extractLsb' 0 8
    ∧ rd (tpcWriteLow k b s).tpc k.id = (rd s.tpc k.id).extractLsb' 8 4 ++ b
    ∧ (∀ j, j ≠ k → rd (tpcWriteHigh k b s).tpc j.id = rd s.tpc j.id ∧ rd (tpcWriteLow k b s).tpc j.id = rd s.tpc j.id)
    ∧ (tpcWriteHigh k b s).tc = s.tc ∧ (tpcWriteLow k b s).tc = s.tc
    ∧ tpcReadHigh s k = rd s.tc k.id ++ (rd s.tpc k.id).extractLsb' 8 4 ∧ tpcReadLow s k = (rd s.tpc k.id).extractLsb' 0 8
    ∧ rd (wakeTask k s).wake k.id = true ∧ (wakeTask k s).waiting = false
    ∧ (∀ j, j ≠ k → rd (wakeTask k s).wake j.id = rd s.wake j.id)
    ∧ wakeTask k (wakeTask k s) = wakeTask k s
    ∧ rd (sleepTask k s).wake k.id = false ∧ (sleepTask k s).waiting = s.waiting ∧ (sleepTask k s).curTask = s.curTask
    ∧ (∀ j, j ≠ k → rd (sleepTask k s).wake j.id = rd s.wake j.id)
    ∧ applyAct .reset s = { State.reset with
        cs := s.cs, params := s.params, inputs := s.inputs, script := s.script, events := s.events }
    ∧ ∀ (a : EnvInputs) (rest : List EnvTick), s.script = { acts := [.reset], answers := a } :: rest →
        ∃ t, t = envPhase s ∧ t.waiting = true ∧ t.curTask = .kernel ∧ t.cycle = .c1 ∧ t.click = 0
          ∧ (∀ b, csRead t b = csRead s b) ∧ (∀ j, rd t.tpc j = 0) ∧ (∀ j, rd t.wake j = false)
          ∧ t.errSet = ErrSet.empty ∧ t.trapCount = 0 ∧ t.ibPtr = .empty ∧ t.pendKind = .plain
          ∧ t.inputs = a ∧ t.script = rest ∧ t.events = s.events ∧ step t = .next (envPhase t)

/-- Whenever any instruction answers a next state: every general register but R[rB] is unchanged, and all are with write-
back codes 0 and 1; Q with every code but 0, 4 and 6; every SU entry but the one at the address stored to, in an SU
write; every RH register but RH[rB] in RH<-; every link register but the one coded; the stack pointer without push,
pop or direct load; pc16 without an effective override; the buffer registers without a load or a consume. Cites: R20,
R21, R23, R24, R25, R26, R27, R28, R29. -/
def Obligations.RegisterFrame : Prop :=
  ∀ (i : Instr) (s t : State), exec i s = .next t →
    (∀ j, j ≠ i.micro.rB → rd t.r j = rd s.r j)
    ∧ ((i.micro.dest = .q ∨ i.micro.dest = .none) → t.r = s.r)
    ∧ (i.micro.dest ≠ .q → i.micro.dest ≠ .doubleRight → i.micro.dest ≠ .doubleLeft → t.q = s.q)
    ∧ (∀ a : Byte, suAddr i.micro s = a → ∀ b, b ≠ a → rd t.su b = rd s.su b)
    ∧ (i.micro.suWrite = false → t.su = s.su)
    ∧ (∀ j, ¬ (i.micro.x = .rhLoad ∧ j = i.micro.rB) → rd t.rh j = rd s.rh j)
    ∧ (∀ j, i.micro.x ≠ .link j → rd t.link j = rd s.link j)
    ∧ (i.micro.pushCount = 0 → i.micro.popCount = 0 → i.micro.loadStackP = false → t.stackP = s.stackP)
    ∧ (i.micro.cinToggle = false → t.pc16 = s.pc16)
    ∧ (i.micro.ibLoad = false → i.micro.peekAdvances = false → i.micro.ibDispRequest = false → t.ib = s.ib)

/-- Whenever any instruction answers a next state: every control-store word, the parameters, the answers and the script
are unchanged; TPC and TC of every task but the current one are; every wake flag but the Kernel's is, and that one
without ExitKernel in cycle 1 and EnterKernel; the macro interrupt without ClrIntErr and MesaIntRq; waiting without
EnterKernel; the cause set and, before a click boundary, the countdown without a raise and ClrIntErr. Cites: R30, R31,
R32, R37, R38, R39, R40, R45, R46, R422. -/
def Obligations.ControlStateFrame : Prop :=
  ∀ (i : Instr) (s t : State), exec i s = .next t →
    (∀ a : MAddr, csRead t a = csRead s a) ∧ t.params = s.params ∧ t.inputs = s.inputs ∧ t.script = s.script
    ∧ (∀ k : Task, k ≠ s.curTask → rd t.tpc k.id = rd s.tpc k.id ∧ rd t.tc k.id = rd s.tc k.id)
    ∧ (∀ k : Task, k ≠ .kernel → rd t.wake k.id = rd s.wake k.id)
    ∧ (¬ (i.micro.exitKernel = true ∧ s.cycle = .c1) → i.micro.enterKernel = false → t.wake = s.wake)
    ∧ (i.micro.clrIntErr = false → i.micro.yNormIs .mesaIntRq = false → t.mint = s.mint)
    ∧ (i.micro.enterKernel = false → t.waiting = s.waiting)
    ∧ (s.cycle ≠ .c3 → ¬ (i.micro.exitKernel = true ∧ s.cycle = .c1) → t.kernelExit = s.kernelExit)
    ∧ (cycleRaises i.micro s = [] → i.micro.clrIntErr = false → t.errSet = s.errSet)
    ∧ (cycleRaises i.micro s = [] → ¬ EmulatorClickEnd s → t.trapCount = s.trapCount)
    ∧ (s.cycle = .c2 → t.pageCrossLatch = s.pageCrossLatch ∧ t.ibEmptyLatch = s.ibEmptyLatch)

/-- For every instruction and state: replacing the six stored flags changes nothing in what exec answers; and putting any
earlier events before the recorded ones puts the same events before those of the next state and changes nothing else.
Cites: R22, R70, R462. -/
def Obligations.EventsAndFlagsAreNotReadBack : Prop :=
  ∀ (i : Instr) (s : State),
    (∀ f : Flags, exec i { s with flags := f } = exec i s)
    ∧ ∀ (t : State) (e : List Event), exec i s = .next t →
        exec i { s with events := e ++ s.events } = .next { t with events := e ++ t.events }
end

