-- ==== Sys2Proof/Laws/State.lean ====
section
/-! SUPPORT. One lemma per field per record update of the model, each true by rfl, so that no later proof unfolds an update. -/

namespace Sys2Proof.Machine

variable (s : State)

/-! ### `csWrite` -/

@[simp] theorem csWrite_r (a : MAddr) (w : MWord) : (csWrite a w s).r = s.r := rfl
@[simp] theorem csWrite_q (a : MAddr) (w : MWord) : (csWrite a w s).q = s.q := rfl
@[simp] theorem csWrite_flags (a : MAddr) (w : MWord) : (csWrite a w s).flags = s.flags := rfl
@[simp] theorem csWrite_su (a : MAddr) (w : MWord) : (csWrite a w s).su = s.su := rfl
@[simp] theorem csWrite_rh (a : MAddr) (w : MWord) : (csWrite a w s).rh = s.rh := rfl
@[simp] theorem csWrite_link (a : MAddr) (w : MWord) : (csWrite a w s).link = s.link := rfl
@[simp] theorem csWrite_stackP (a : MAddr) (w : MWord) : (csWrite a w s).stackP = s.stackP := rfl
@[simp] theorem csWrite_pc16 (a : MAddr) (w : MWord) : (csWrite a w s).pc16 = s.pc16 := rfl
@[simp] theorem csWrite_ibFront (a : MAddr) (w : MWord) : (csWrite a w s).ibFront = s.ibFront := rfl
@[simp] theorem csWrite_ibPair (a : MAddr) (w : MWord) : (csWrite a w s).ibPair = s.ibPair := rfl
@[simp] theorem csWrite_ibPtr (a : MAddr) (w : MWord) : (csWrite a w s).ibPtr = s.ibPtr := rfl
@[simp] theorem csWrite_tpc (a : MAddr) (w : MWord) : (csWrite a w s).tpc = s.tpc := rfl
@[simp] theorem csWrite_tc (a : MAddr) (w : MWord) : (csWrite a w s).tc = s.tc := rfl
@[simp] theorem csWrite_wake (a : MAddr) (w : MWord) : (csWrite a w s).wake = s.wake := rfl
@[simp] theorem csWrite_curTask (a : MAddr) (w : MWord) : (csWrite a w s).curTask = s.curTask := rfl
@[simp] theorem csWrite_cycle (a : MAddr) (w : MWord) : (csWrite a w s).cycle = s.cycle := rfl
@[simp] theorem csWrite_click (a : MAddr) (w : MWord) : (csWrite a w s).click = s.click := rfl
@[simp] theorem csWrite_errSet (a : MAddr) (w : MWord) : (csWrite a w s).errSet = s.errSet := rfl
@[simp] theorem csWrite_trapCount (a : MAddr) (w : MWord) : (csWrite a w s).trapCount = s.trapCount := rfl
@[simp] theorem csWrite_cs (a : MAddr) (w : MWord) : (csWrite a w s).cs = Memory.write s.cs a.toNat w := rfl
@[simp] theorem csWrite_mint (a : MAddr) (w : MWord) : (csWrite a w s).mint = s.mint := rfl
@[simp] theorem csWrite_niax (a : MAddr) (w : MWord) : (csWrite a w s).niax = s.niax := rfl
@[simp] theorem csWrite_pendKind (a : MAddr) (w : MWord) : (csWrite a w s).pendKind = s.pendKind := rfl
@[simp] theorem csWrite_pageCrossLatch (a : MAddr) (w : MWord) : (csWrite a w s).pageCrossLatch = s.pageCrossLatch := rfl
@[simp] theorem csWrite_ibEmptyLatch (a : MAddr) (w : MWord) : (csWrite a w s).ibEmptyLatch = s.ibEmptyLatch := rfl
@[simp] theorem csWrite_kernelExit (a : MAddr) (w : MWord) : (csWrite a w s).kernelExit = s.kernelExit := rfl
@[simp] theorem csWrite_waiting (a : MAddr) (w : MWord) : (csWrite a w s).waiting = s.waiting := rfl
@[simp] theorem csWrite_params (a : MAddr) (w : MWord) : (csWrite a w s).params = s.params := rfl
@[simp] theorem csWrite_inputs (a : MAddr) (w : MWord) : (csWrite a w s).inputs = s.inputs := rfl
@[simp] theorem csWrite_script (a : MAddr) (w : MWord) : (csWrite a w s).script = s.script := rfl
@[simp] theorem csWrite_events (a : MAddr) (w : MWord) : (csWrite a w s).events = s.events := rfl

/-! ### `tpcWriteHigh` -/

@[simp] theorem tpcWriteHigh_r (t : Task) (b : Byte) : (tpcWriteHigh t b s).r = s.r := rfl
@[simp] theorem tpcWriteHigh_q (t : Task) (b : Byte) : (tpcWriteHigh t b s).q = s.q := rfl
@[simp] theorem tpcWriteHigh_flags (t : Task) (b : Byte) : (tpcWriteHigh t b s).flags = s.flags := rfl
@[simp] theorem tpcWriteHigh_su (t : Task) (b : Byte) : (tpcWriteHigh t b s).su = s.su := rfl
@[simp] theorem tpcWriteHigh_rh (t : Task) (b : Byte) : (tpcWriteHigh t b s).rh = s.rh := rfl
@[simp] theorem tpcWriteHigh_link (t : Task) (b : Byte) : (tpcWriteHigh t b s).link = s.link := rfl
@[simp] theorem tpcWriteHigh_stackP (t : Task) (b : Byte) : (tpcWriteHigh t b s).stackP = s.stackP := rfl
@[simp] theorem tpcWriteHigh_pc16 (t : Task) (b : Byte) : (tpcWriteHigh t b s).pc16 = s.pc16 := rfl
@[simp] theorem tpcWriteHigh_ibFront (t : Task) (b : Byte) : (tpcWriteHigh t b s).ibFront = s.ibFront := rfl
@[simp] theorem tpcWriteHigh_ibPair (t : Task) (b : Byte) : (tpcWriteHigh t b s).ibPair = s.ibPair := rfl
@[simp] theorem tpcWriteHigh_ibPtr (t : Task) (b : Byte) : (tpcWriteHigh t b s).ibPtr = s.ibPtr := rfl
@[simp] theorem tpcWriteHigh_tpc (t : Task) (b : Byte) :
    (tpcWriteHigh t b s).tpc = wr s.tpc t.id (b.extractLsb' 0 4 ++ (rd s.tpc t.id).extractLsb' 0 8) := rfl
@[simp] theorem tpcWriteHigh_tc (t : Task) (b : Byte) : (tpcWriteHigh t b s).tc = s.tc := rfl
@[simp] theorem tpcWriteHigh_wake (t : Task) (b : Byte) : (tpcWriteHigh t b s).wake = s.wake := rfl
@[simp] theorem tpcWriteHigh_curTask (t : Task) (b : Byte) : (tpcWriteHigh t b s).curTask = s.curTask := rfl
@[simp] theorem tpcWriteHigh_cycle (t : Task) (b : Byte) : (tpcWriteHigh t b s).cycle = s.cycle := rfl
@[simp] theorem tpcWriteHigh_click (t : Task) (b : Byte) : (tpcWriteHigh t b s).click = s.click := rfl
@[simp] theorem tpcWriteHigh_errSet (t : Task) (b : Byte) : (tpcWriteHigh t b s).errSet = s.errSet := rfl
@[simp] theorem tpcWriteHigh_trapCount (t : Task) (b : Byte) : (tpcWriteHigh t b s).trapCount = s.trapCount := rfl
@[simp] theorem tpcWriteHigh_cs (t : Task) (b : Byte) : (tpcWriteHigh t b s).cs = s.cs := rfl
@[simp] theorem tpcWriteHigh_mint (t : Task) (b : Byte) : (tpcWriteHigh t b s).mint = s.mint := rfl
@[simp] theorem tpcWriteHigh_niax (t : Task) (b : Byte) : (tpcWriteHigh t b s).niax = s.niax := rfl
@[simp] theorem tpcWriteHigh_pendKind (t : Task) (b : Byte) : (tpcWriteHigh t b s).pendKind = s.pendKind := rfl
@[simp] theorem tpcWriteHigh_pageCrossLatch (t : Task) (b : Byte) :
    (tpcWriteHigh t b s).pageCrossLatch = s.pageCrossLatch := rfl
@[simp] theorem tpcWriteHigh_ibEmptyLatch (t : Task) (b : Byte) : (tpcWriteHigh t b s).ibEmptyLatch = s.ibEmptyLatch := rfl
@[simp] theorem tpcWriteHigh_kernelExit (t : Task) (b : Byte) : (tpcWriteHigh t b s).kernelExit = s.kernelExit := rfl
@[simp] theorem tpcWriteHigh_waiting (t : Task) (b : Byte) : (tpcWriteHigh t b s).waiting = s.waiting := rfl
@[simp] theorem tpcWriteHigh_params (t : Task) (b : Byte) : (tpcWriteHigh t b s).params = s.params := rfl
@[simp] theorem tpcWriteHigh_inputs (t : Task) (b : Byte) : (tpcWriteHigh t b s).inputs = s.inputs := rfl
@[simp] theorem tpcWriteHigh_script (t : Task) (b : Byte) : (tpcWriteHigh t b s).script = s.script := rfl
@[simp] theorem tpcWriteHigh_events (t : Task) (b : Byte) : (tpcWriteHigh t b s).events = s.events := rfl

/-! ### `tpcWriteLow` -/

@[simp] theorem tpcWriteLow_r (t : Task) (b : Byte) : (tpcWriteLow t b s).r = s.r := rfl
@[simp] theorem tpcWriteLow_q (t : Task) (b : Byte) : (tpcWriteLow t b s).q = s.q := rfl
@[simp] theorem tpcWriteLow_flags (t : Task) (b : Byte) : (tpcWriteLow t b s).flags = s.flags := rfl
@[simp] theorem tpcWriteLow_su (t : Task) (b : Byte) : (tpcWriteLow t b s).su = s.su := rfl
@[simp] theorem tpcWriteLow_rh (t : Task) (b : Byte) : (tpcWriteLow t b s).rh = s.rh := rfl
@[simp] theorem tpcWriteLow_link (t : Task) (b : Byte) : (tpcWriteLow t b s).link = s.link := rfl
@[simp] theorem tpcWriteLow_stackP (t : Task) (b : Byte) : (tpcWriteLow t b s).stackP = s.stackP := rfl
@[simp] theorem tpcWriteLow_pc16 (t : Task) (b : Byte) : (tpcWriteLow t b s).pc16 = s.pc16 := rfl
@[simp] theorem tpcWriteLow_ibFront (t : Task) (b : Byte) : (tpcWriteLow t b s).ibFront = s.ibFront := rfl
@[simp] theorem tpcWriteLow_ibPair (t : Task) (b : Byte) : (tpcWriteLow t b s).ibPair = s.ibPair := rfl
@[simp] theorem tpcWriteLow_ibPtr (t : Task) (b : Byte) : (tpcWriteLow t b s).ibPtr = s.ibPtr := rfl
@[simp] theorem tpcWriteLow_tpc (t : Task) (b : Byte) :
    (tpcWriteLow t b s).tpc = wr s.tpc t.id ((rd s.tpc t.id).extractLsb' 8 4 ++ b) := rfl
@[simp] theorem tpcWriteLow_tc (t : Task) (b : Byte) : (tpcWriteLow t b s).tc = s.tc := rfl
@[simp] theorem tpcWriteLow_wake (t : Task) (b : Byte) : (tpcWriteLow t b s).wake = s.wake := rfl
@[simp] theorem tpcWriteLow_curTask (t : Task) (b : Byte) : (tpcWriteLow t b s).curTask = s.curTask := rfl
@[simp] theorem tpcWriteLow_cycle (t : Task) (b : Byte) : (tpcWriteLow t b s).cycle = s.cycle := rfl
@[simp] theorem tpcWriteLow_click (t : Task) (b : Byte) : (tpcWriteLow t b s).click = s.click := rfl
@[simp] theorem tpcWriteLow_errSet (t : Task) (b : Byte) : (tpcWriteLow t b s).errSet = s.errSet := rfl
@[simp] theorem tpcWriteLow_trapCount (t : Task) (b : Byte) : (tpcWriteLow t b s).trapCount = s.trapCount := rfl
@[simp] theorem tpcWriteLow_cs (t : Task) (b : Byte) : (tpcWriteLow t b s).cs = s.cs := rfl
@[simp] theorem tpcWriteLow_mint (t : Task) (b : Byte) : (tpcWriteLow t b s).mint = s.mint := rfl
@[simp] theorem tpcWriteLow_niax (t : Task) (b : Byte) : (tpcWriteLow t b s).niax = s.niax := rfl
@[simp] theorem tpcWriteLow_pendKind (t : Task) (b : Byte) : (tpcWriteLow t b s).pendKind = s.pendKind := rfl
@[simp] theorem tpcWriteLow_pageCrossLatch (t : Task) (b : Byte) :
    (tpcWriteLow t b s).pageCrossLatch = s.pageCrossLatch := rfl
@[simp] theorem tpcWriteLow_ibEmptyLatch (t : Task) (b : Byte) : (tpcWriteLow t b s).ibEmptyLatch = s.ibEmptyLatch := rfl
@[simp] theorem tpcWriteLow_kernelExit (t : Task) (b : Byte) : (tpcWriteLow t b s).kernelExit = s.kernelExit := rfl
@[simp] theorem tpcWriteLow_waiting (t : Task) (b : Byte) : (tpcWriteLow t b s).waiting = s.waiting := rfl
@[simp] theorem tpcWriteLow_params (t : Task) (b : Byte) : (tpcWriteLow t b s).params = s.params := rfl
@[simp] theorem tpcWriteLow_inputs (t : Task) (b : Byte) : (tpcWriteLow t b s).inputs = s.inputs := rfl
@[simp] theorem tpcWriteLow_script (t : Task) (b : Byte) : (tpcWriteLow t b s).script = s.script := rfl
@[simp] theorem tpcWriteLow_events (t : Task) (b : Byte) : (tpcWriteLow t b s).events = s.events := rfl

/-! ### `wakeTask` -/

@[simp] theorem wakeTask_r (t : Task) : (wakeTask t s).r = s.r := rfl
@[simp] theorem wakeTask_q (t : Task) : (wakeTask t s).q = s.q := rfl
@[simp] theorem wakeTask_flags (t : Task) : (wakeTask t s).flags = s.flags := rfl
@[simp] theorem wakeTask_su (t : Task) : (wakeTask t s).su = s.su := rfl
@[simp] theorem wakeTask_rh (t : Task) : (wakeTask t s).rh = s.rh := rfl
@[simp] theorem wakeTask_link (t : Task) : (wakeTask t s).link = s.link := rfl
@[simp] theorem wakeTask_stackP (t : Task) : (wakeTask t s).stackP = s.stackP := rfl
@[simp] theorem wakeTask_pc16 (t : Task) : (wakeTask t s).pc16 = s.pc16 := rfl
@[simp] theorem wakeTask_ibFront (t : Task) : (wakeTask t s).ibFront = s.ibFront := rfl
@[simp] theorem wakeTask_ibPair (t : Task) : (wakeTask t s).ibPair = s.ibPair := rfl
@[simp] theorem wakeTask_ibPtr (t : Task) : (wakeTask t s).ibPtr = s.ibPtr := rfl
@[simp] theorem wakeTask_tpc (t : Task) : (wakeTask t s).tpc = s.tpc := rfl
@[simp] theorem wakeTask_tc (t : Task) : (wakeTask t s).tc = s.tc := rfl
@[simp] theorem wakeTask_wake (t : Task) : (wakeTask t s).wake = wr s.wake t.id true := rfl
@[simp] theorem wakeTask_curTask (t : Task) : (wakeTask t s).curTask = s.curTask := rfl
@[simp] theorem wakeTask_cycle (t : Task) : (wakeTask t s).cycle = s.cycle := rfl
@[simp] theorem wakeTask_click (t : Task) : (wakeTask t s).click = s.click := rfl
@[simp] theorem wakeTask_errSet (t : Task) : (wakeTask t s).errSet = s.errSet := rfl
@[simp] theorem wakeTask_trapCount (t : Task) : (wakeTask t s).trapCount = s.trapCount := rfl
@[simp] theorem wakeTask_cs (t : Task) : (wakeTask t s).cs = s.cs := rfl
@[simp] theorem wakeTask_mint (t : Task) : (wakeTask t s).mint = s.mint := rfl
@[simp] theorem wakeTask_niax (t : Task) : (wakeTask t s).niax = s.niax := rfl
@[simp] theorem wakeTask_pendKind (t : Task) : (wakeTask t s).pendKind = s.pendKind := rfl
@[simp] theorem wakeTask_pageCrossLatch (t : Task) : (wakeTask t s).pageCrossLatch = s.pageCrossLatch := rfl
@[simp] theorem wakeTask_ibEmptyLatch (t : Task) : (wakeTask t s).ibEmptyLatch = s.ibEmptyLatch := rfl
@[simp] theorem wakeTask_kernelExit (t : Task) : (wakeTask t s).kernelExit = s.kernelExit := rfl
@[simp] theorem wakeTask_waiting (t : Task) : (wakeTask t s).waiting = false := rfl
@[simp] theorem wakeTask_params (t : Task) : (wakeTask t s).params = s.params := rfl
@[simp] theorem wakeTask_inputs (t : Task) : (wakeTask t s).inputs = s.inputs := rfl
@[simp] theorem wakeTask_script (t : Task) : (wakeTask t s).script = s.script := rfl
@[simp] theorem wakeTask_events (t : Task) : (wakeTask t s).events = s.events := rfl

/-! ### `sleepTask` -/

@[simp] theorem sleepTask_r (t : Task) : (sleepTask t s).r = s.r := rfl
@[simp] theorem sleepTask_q (t : Task) : (sleepTask t s).q = s.q := rfl
@[simp] theorem sleepTask_flags (t : Task) : (sleepTask t s).flags = s.flags := rfl
@[simp] theorem sleepTask_su (t : Task) : (sleepTask t s).su = s.su := rfl
@[simp] theorem sleepTask_rh (t : Task) : (sleepTask t s).rh = s.rh := rfl
@[simp] theorem sleepTask_link (t : Task) : (sleepTask t s).link = s.link := rfl
@[simp] theorem sleepTask_stackP (t : Task) : (sleepTask t s).stackP = s.stackP := rfl
@[simp] theorem sleepTask_pc16 (t : Task) : (sleepTask t s).pc16 = s.pc16 := rfl
@[simp] theorem sleepTask_ibFront (t : Task) : (sleepTask t s).ibFront = s.ibFront := rfl
@[simp] theorem sleepTask_ibPair (t : Task) : (sleepTask t s).ibPair = s.ibPair := rfl
@[simp] theorem sleepTask_ibPtr (t : Task) : (sleepTask t s).ibPtr = s.ibPtr := rfl
@[simp] theorem sleepTask_tpc (t : Task) : (sleepTask t s).tpc = s.tpc := rfl
@[simp] theorem sleepTask_tc (t : Task) : (sleepTask t s).tc = s.tc := rfl
@[simp] theorem sleepTask_wake (t : Task) : (sleepTask t s).wake = wr s.wake t.id false := rfl
@[simp] theorem sleepTask_curTask (t : Task) : (sleepTask t s).curTask = s.curTask := rfl
@[simp] theorem sleepTask_cycle (t : Task) : (sleepTask t s).cycle = s.cycle := rfl
@[simp] theorem sleepTask_click (t : Task) : (sleepTask t s).click = s.click := rfl
@[simp] theorem sleepTask_errSet (t : Task) : (sleepTask t s).errSet = s.errSet := rfl
@[simp] theorem sleepTask_trapCount (t : Task) : (sleepTask t s).trapCount = s.trapCount := rfl
@[simp] theorem sleepTask_cs (t : Task) : (sleepTask t s).cs = s.cs := rfl
@[simp] theorem sleepTask_mint (t : Task) : (sleepTask t s).mint = s.mint := rfl
@[simp] theorem sleepTask_niax (t : Task) : (sleepTask t s).niax = s.niax := rfl
@[simp] theorem sleepTask_pendKind (t : Task) : (sleepTask t s).pendKind = s.pendKind := rfl
@[simp] theorem sleepTask_pageCrossLatch (t : Task) : (sleepTask t s).pageCrossLatch = s.pageCrossLatch := rfl
@[simp] theorem sleepTask_ibEmptyLatch (t : Task) : (sleepTask t s).ibEmptyLatch = s.ibEmptyLatch := rfl
@[simp] theorem sleepTask_kernelExit (t : Task) : (sleepTask t s).kernelExit = s.kernelExit := rfl
@[simp] theorem sleepTask_waiting (t : Task) : (sleepTask t s).waiting = s.waiting := rfl
@[simp] theorem sleepTask_params (t : Task) : (sleepTask t s).params = s.params := rfl
@[simp] theorem sleepTask_inputs (t : Task) : (sleepTask t s).inputs = s.inputs := rfl
@[simp] theorem sleepTask_script (t : Task) : (sleepTask t s).script = s.script := rfl
@[simp] theorem sleepTask_events (t : Task) : (sleepTask t s).events = s.events := rfl

/-! ### `raiseErr` -/

@[simp] theorem raiseErr_r (c : Cause) : (raiseErr c s).r = s.r := rfl
@[simp] theorem raiseErr_q (c : Cause) : (raiseErr c s).q = s.q := rfl
@[simp] theorem raiseErr_flags (c : Cause) : (raiseErr c s).flags = s.flags := rfl
@[simp] theorem raiseErr_su (c : Cause) : (raiseErr c s).su = s.su := rfl
@[simp] theorem raiseErr_rh (c : Cause) : (raiseErr c s).rh = s.rh := rfl
@[simp] theorem raiseErr_link (c : Cause) : (raiseErr c s).link = s.link := rfl
@[simp] theorem raiseErr_stackP (c : Cause) : (raiseErr c s).stackP = s.stackP := rfl
@[simp] theorem raiseErr_pc16 (c : Cause) : (raiseErr c s).pc16 = s.pc16 := rfl
@[simp] theorem raiseErr_ibFront (c : Cause) : (raiseErr c s).ibFront = s.ibFront := rfl
@[simp] theorem raiseErr_ibPair (c : Cause) : (raiseErr c s).ibPair = s.ibPair := rfl
@[simp] theorem raiseErr_ibPtr (c : Cause) : (raiseErr c s).ibPtr = s.ibPtr := rfl
@[simp] theorem raiseErr_tpc (c : Cause) : (raiseErr c s).tpc = s.tpc := rfl
@[simp] theorem raiseErr_tc (c : Cause) : (raiseErr c s).tc = s.tc := rfl
@[simp] theorem raiseErr_wake (c : Cause) : (raiseErr c s).wake = s.wake := rfl
@[simp] theorem raiseErr_curTask (c : Cause) : (raiseErr c s).curTask = s.curTask := rfl
@[simp] theorem raiseErr_cycle (c : Cause) : (raiseErr c s).cycle = s.cycle := rfl
@[simp] theorem raiseErr_click (c : Cause) : (raiseErr c s).click = s.click := rfl
@[simp] theorem raiseErr_errSet (c : Cause) : (raiseErr c s).errSet = s.errSet.insert c := rfl
@[simp] theorem raiseErr_trapCount (c : Cause) :
    (raiseErr c s).trapCount = (if s.trapCount = 0 then (s.params.trapDelay c s.cycle).count else s.trapCount) := rfl
@[simp] theorem raiseErr_cs (c : Cause) : (raiseErr c s).cs = s.cs := rfl
@[simp] theorem raiseErr_mint (c : Cause) : (raiseErr c s).mint = s.mint := rfl
@[simp] theorem raiseErr_niax (c : Cause) : (raiseErr c s).niax = s.niax := rfl
@[simp] theorem raiseErr_pendKind (c : Cause) : (raiseErr c s).pendKind = s.pendKind := rfl
@[simp] theorem raiseErr_pageCrossLatch (c : Cause) : (raiseErr c s).pageCrossLatch = s.pageCrossLatch := rfl
@[simp] theorem raiseErr_ibEmptyLatch (c : Cause) : (raiseErr c s).ibEmptyLatch = s.ibEmptyLatch := rfl
@[simp] theorem raiseErr_kernelExit (c : Cause) : (raiseErr c s).kernelExit = s.kernelExit := rfl
@[simp] theorem raiseErr_waiting (c : Cause) : (raiseErr c s).waiting = s.waiting := rfl
@[simp] theorem raiseErr_params (c : Cause) : (raiseErr c s).params = s.params := rfl
@[simp] theorem raiseErr_inputs (c : Cause) : (raiseErr c s).inputs = s.inputs := rfl
@[simp] theorem raiseErr_script (c : Cause) : (raiseErr c s).script = s.script := rfl
@[simp] theorem raiseErr_events (c : Cause) : (raiseErr c s).events = s.events := rfl

/-! ### `takeTrap` -/

@[simp] theorem takeTrap_r : (takeTrap s).r = s.r := rfl
@[simp] theorem takeTrap_q : (takeTrap s).q = s.q := rfl
@[simp] theorem takeTrap_flags : (takeTrap s).flags = s.flags := rfl
@[simp] theorem takeTrap_su : (takeTrap s).su = s.su := rfl
@[simp] theorem takeTrap_rh : (takeTrap s).rh = s.rh := rfl
@[simp] theorem takeTrap_link : (takeTrap s).link = s.link := rfl
@[simp] theorem takeTrap_stackP : (takeTrap s).stackP = s.stackP := rfl
@[simp] theorem takeTrap_pc16 : (takeTrap s).pc16 = s.pc16 := rfl
@[simp] theorem takeTrap_ibFront : (takeTrap s).ibFront = s.ibFront := rfl
@[simp] theorem takeTrap_ibPair : (takeTrap s).ibPair = s.ibPair := rfl
@[simp] theorem takeTrap_ibPtr : (takeTrap s).ibPtr = s.ibPtr := rfl
@[simp] theorem takeTrap_tpc : (takeTrap s).tpc = wr s.tpc (Task.id .emulator) 0 := rfl
@[simp] theorem takeTrap_tc : (takeTrap s).tc = s.tc := rfl
@[simp] theorem takeTrap_wake : (takeTrap s).wake = s.wake := rfl
@[simp] theorem takeTrap_curTask : (takeTrap s).curTask = s.curTask := rfl
@[simp] theorem takeTrap_cycle : (takeTrap s).cycle = s.cycle := rfl
@[simp] theorem takeTrap_click : (takeTrap s).click = s.click := rfl
@[simp] theorem takeTrap_errSet : (takeTrap s).errSet = s.errSet := rfl
@[simp] theorem takeTrap_trapCount : (takeTrap s).trapCount = s.trapCount := rfl
@[simp] theorem takeTrap_cs : (takeTrap s).cs = s.cs := rfl
@[simp] theorem takeTrap_mint : (takeTrap s).mint = s.mint := rfl
@[simp] theorem takeTrap_niax : (takeTrap s).niax = 0 := rfl
@[simp] theorem takeTrap_pendKind : (takeTrap s).pendKind = .plain := rfl
@[simp] theorem takeTrap_pageCrossLatch : (takeTrap s).pageCrossLatch = s.pageCrossLatch := rfl
@[simp] theorem takeTrap_ibEmptyLatch : (takeTrap s).ibEmptyLatch = s.ibEmptyLatch := rfl
@[simp] theorem takeTrap_kernelExit : (takeTrap s).kernelExit = s.kernelExit := rfl
@[simp] theorem takeTrap_waiting : (takeTrap s).waiting = s.waiting := rfl
@[simp] theorem takeTrap_params : (takeTrap s).params = s.params := rfl
@[simp] theorem takeTrap_inputs : (takeTrap s).inputs = s.inputs := rfl
@[simp] theorem takeTrap_script : (takeTrap s).script = s.script := rfl
@[simp] theorem takeTrap_events : (takeTrap s).events = s.events := rfl

/-! ### `clearLatches` -/

@[simp] theorem clearLatches_r : (clearLatches s).r = s.r := rfl
@[simp] theorem clearLatches_q : (clearLatches s).q = s.q := rfl
@[simp] theorem clearLatches_flags : (clearLatches s).flags = s.flags := rfl
@[simp] theorem clearLatches_su : (clearLatches s).su = s.su := rfl
@[simp] theorem clearLatches_rh : (clearLatches s).rh = s.rh := rfl
@[simp] theorem clearLatches_link : (clearLatches s).link = s.link := rfl
@[simp] theorem clearLatches_stackP : (clearLatches s).stackP = s.stackP := rfl
@[simp] theorem clearLatches_pc16 : (clearLatches s).pc16 = s.pc16 := rfl
@[simp] theorem clearLatches_ibFront : (clearLatches s).ibFront = s.ibFront := rfl
@[simp] theorem clearLatches_ibPair : (clearLatches s).ibPair = s.ibPair := rfl
@[simp] theorem clearLatches_ibPtr : (clearLatches s).ibPtr = s.ibPtr := rfl
@[simp] theorem clearLatches_tpc : (clearLatches s).tpc = s.tpc := rfl
@[simp] theorem clearLatches_tc : (clearLatches s).tc = s.tc := rfl
@[simp] theorem clearLatches_wake : (clearLatches s).wake = s.wake := rfl
@[simp] theorem clearLatches_curTask : (clearLatches s).curTask = s.curTask := rfl
@[simp] theorem clearLatches_cycle : (clearLatches s).cycle = s.cycle := rfl
@[simp] theorem clearLatches_click : (clearLatches s).click = s.click := rfl
@[simp] theorem clearLatches_errSet : (clearLatches s).errSet = s.errSet := rfl
@[simp] theorem clearLatches_trapCount : (clearLatches s).trapCount = s.trapCount := rfl
@[simp] theorem clearLatches_cs : (clearLatches s).cs = s.cs := rfl
@[simp] theorem clearLatches_mint : (clearLatches s).mint = s.mint := rfl
@[simp] theorem clearLatches_niax : (clearLatches s).niax = s.niax := rfl
@[simp] theorem clearLatches_pendKind : (clearLatches s).pendKind = s.pendKind := rfl
@[simp] theorem clearLatches_pageCrossLatch : (clearLatches s).pageCrossLatch = false := rfl
@[simp] theorem clearLatches_ibEmptyLatch : (clearLatches s).ibEmptyLatch = false := rfl
@[simp] theorem clearLatches_kernelExit : (clearLatches s).kernelExit = s.kernelExit := rfl
@[simp] theorem clearLatches_waiting : (clearLatches s).waiting = s.waiting := rfl
@[simp] theorem clearLatches_params : (clearLatches s).params = s.params := rfl
@[simp] theorem clearLatches_inputs : (clearLatches s).inputs = s.inputs := rfl
@[simp] theorem clearLatches_script : (clearLatches s).script = s.script := rfl
@[simp] theorem clearLatches_events : (clearLatches s).events = s.events := rfl

/-! ### `advanceClick` -/

@[simp] theorem advanceClick_r : (advanceClick s).r = s.r := rfl
@[simp] theorem advanceClick_q : (advanceClick s).q = s.q := rfl
@[simp] theorem advanceClick_flags : (advanceClick s).flags = s.flags := rfl
@[simp] theorem advanceClick_su : (advanceClick s).su = s.su := rfl
@[simp] theorem advanceClick_rh : (advanceClick s).rh = s.rh := rfl
@[simp] theorem advanceClick_link : (advanceClick s).link = s.link := rfl
@[simp] theorem advanceClick_stackP : (advanceClick s).stackP = s.stackP := rfl
@[simp] theorem advanceClick_pc16 : (advanceClick s).pc16 = s.pc16 := rfl
@[simp] theorem advanceClick_ibFront : (advanceClick s).ibFront = s.ibFront := rfl
@[simp] theorem advanceClick_ibPair : (advanceClick s).ibPair = s.ibPair := rfl
@[simp] theorem advanceClick_ibPtr : (advanceClick s).ibPtr = s.ibPtr := rfl
@[simp] theorem advanceClick_tpc : (advanceClick s).tpc = s.tpc := rfl
@[simp] theorem advanceClick_tc : (advanceClick s).tc = s.tc := rfl
@[simp] theorem advanceClick_wake : (advanceClick s).wake = s.wake := rfl
@[simp] theorem advanceClick_curTask : (advanceClick s).curTask = s.curTask := rfl
@[simp] theorem advanceClick_cycle : (advanceClick s).cycle = s.cycle := rfl
@[simp] theorem advanceClick_click : (advanceClick s).click = s.click + 1 := rfl
@[simp] theorem advanceClick_errSet : (advanceClick s).errSet = s.errSet := rfl
@[simp] theorem advanceClick_trapCount : (advanceClick s).trapCount = s.trapCount := rfl
@[simp] theorem advanceClick_cs : (advanceClick s).cs = s.cs := rfl
@[simp] theorem advanceClick_mint : (advanceClick s).mint = s.mint := rfl
@[simp] theorem advanceClick_niax : (advanceClick s).niax = s.niax := rfl
@[simp] theorem advanceClick_pendKind : (advanceClick s).pendKind = s.pendKind := rfl
@[simp] theorem advanceClick_pageCrossLatch : (advanceClick s).pageCrossLatch = s.pageCrossLatch := rfl
@[simp] theorem advanceClick_ibEmptyLatch : (advanceClick s).ibEmptyLatch = s.ibEmptyLatch := rfl
@[simp] theorem advanceClick_kernelExit : (advanceClick s).kernelExit = s.kernelExit := rfl
@[simp] theorem advanceClick_waiting : (advanceClick s).waiting = s.waiting := rfl
@[simp] theorem advanceClick_params : (advanceClick s).params = s.params := rfl
@[simp] theorem advanceClick_inputs : (advanceClick s).inputs = s.inputs := rfl
@[simp] theorem advanceClick_script : (advanceClick s).script = s.script := rfl
@[simp] theorem advanceClick_events : (advanceClick s).events = s.events := rfl

/-! ### `commit` -/

@[simp] theorem commit_r (m : Micro) : (commit m s).r = nextR m s := rfl
@[simp] theorem commit_q (m : Micro) : (commit m s).q = nextQ m s := rfl
@[simp] theorem commit_flags (m : Micro) : (commit m s).flags = (aluOut m s).flags := rfl
@[simp] theorem commit_su (m : Micro) : (commit m s).su = nextSu m s := rfl
@[simp] theorem commit_rh (m : Micro) : (commit m s).rh = nextRh m s := rfl
@[simp] theorem commit_link (m : Micro) : (commit m s).link = nextLink m s := rfl
@[simp] theorem commit_stackP (m : Micro) : (commit m s).stackP = nextStackP m s := rfl
@[simp] theorem commit_pc16 (m : Micro) : (commit m s).pc16 = (if m.cinToggle then !s.pc16 else s.pc16) := rfl
@[simp] theorem commit_ibFront (m : Micro) : (commit m s).ibFront = (nextIb m s).front := rfl
@[simp] theorem commit_ibPair (m : Micro) : (commit m s).ibPair = (nextIb m s).pair := rfl
@[simp] theorem commit_ibPtr (m : Micro) : (commit m s).ibPtr = (nextIb m s).ptr := rfl
@[simp] theorem commit_tpc (m : Micro) : (commit m s).tpc = wr s.tpc s.curTask.id (nextAddr m s) := rfl
@[simp] theorem commit_tc (m : Micro) : (commit m s).tc = s.tc := rfl
@[simp] theorem commit_wake (m : Micro) : (commit m s).wake = nextWake m s := rfl
@[simp] theorem commit_curTask (m : Micro) : (commit m s).curTask = s.curTask := rfl
@[simp] theorem commit_cycle (m : Micro) : (commit m s).cycle = s.cycle := rfl
@[simp] theorem commit_click (m : Micro) : (commit m s).click = s.click := rfl
@[simp] theorem commit_errSet (m : Micro) : (commit m s).errSet = (if m.clrIntErr then ErrSet.empty else s.errSet) := rfl
@[simp] theorem commit_trapCount (m : Micro) : (commit m s).trapCount = s.trapCount := rfl
@[simp] theorem commit_cs (m : Micro) : (commit m s).cs = s.cs := rfl
@[simp] theorem commit_mint (m : Micro) : (commit m s).mint = nextMint m s := rfl
@[simp] theorem commit_niax (m : Micro) : (commit m s).niax = niaxOut m s := rfl
@[simp] theorem commit_pendKind (m : Micro) : (commit m s).pendKind = pendKindOut m s := rfl
@[simp] theorem commit_pageCrossLatch (m : Micro) :
    (commit m s).pageCrossLatch = (s.pageCrossLatch || pageCrossNow m s) := rfl
@[simp] theorem commit_ibEmptyLatch (m : Micro) :
    (commit m s).ibEmptyLatch = (s.ibEmptyLatch || (peekEmpty m s && decide (s.cycle = .c1))) := rfl
@[simp] theorem commit_kernelExit (m : Micro) : (commit m s).kernelExit = (s.kernelExit || exitNow m s) := rfl
@[simp] theorem commit_waiting (m : Micro) : (commit m s).waiting = (s.waiting && !m.enterKernel) := rfl
@[simp] theorem commit_params (m : Micro) : (commit m s).params = s.params := rfl
@[simp] theorem commit_inputs (m : Micro) : (commit m s).inputs = s.inputs := rfl
@[simp] theorem commit_script (m : Micro) : (commit m s).script = s.script := rfl
@[simp] theorem commit_events (m : Micro) : (commit m s).events = s.events ++ cycleEvents m s := rfl

/-! ### The instruction buffer and reset -/

@[simp] theorem ib_front : s.ib.front = s.ibFront := rfl
@[simp] theorem ib_pair : s.ib.pair = s.ibPair := rfl
@[simp] theorem ib_ptr : s.ib.ptr = s.ibPtr := rfl

/-! ### Placing an instruction -/

@[simp] theorem withFetchWord_waiting (nbits w : Nat) : (s.withFetchWord nbits w).waiting = false := rfl
@[simp] theorem withFetchWord_tpc (nbits w : Nat) : (s.withFetchWord nbits w).tpc = s.tpc := rfl
@[simp] theorem withFetchWord_curTask (nbits w : Nat) : (s.withFetchWord nbits w).curTask = s.curTask := rfl
@[simp] theorem withFetchWord_cs (nbits w : Nat) : (s.withFetchWord nbits w).cs
    = Memory.write s.cs (rd s.tpc s.curTask.id).toNat (BitVec.ofNat 48 (w % 2 ^ nbits)) := rfl

end Sys2Proof.Machine
end

