-- ==== Sys2Proof/Laws/Cycle.lean ====
section
/-! SUPPORT. What the composed operations of a cycle do to each field: the countdown, the task switch, the click step, the raises,
and the cycle as a whole. Proofs cite these and never unfold the cycle. -/

namespace Sys2Proof.Machine

variable (s : State)

/-! ### Trap countdown -/

@[simp] theorem trapCountdown_r : (trapCountdown s).r = s.r := by
  unfold trapCountdown; split_ifs <;> rfl
@[simp] theorem trapCountdown_q : (trapCountdown s).q = s.q := by
  unfold trapCountdown; split_ifs <;> rfl
@[simp] theorem trapCountdown_flags : (trapCountdown s).flags = s.flags := by
  unfold trapCountdown; split_ifs <;> rfl
@[simp] theorem trapCountdown_su : (trapCountdown s).su = s.su := by
  unfold trapCountdown; split_ifs <;> rfl
@[simp] theorem trapCountdown_rh : (trapCountdown s).rh = s.rh := by
  unfold trapCountdown; split_ifs <;> rfl
@[simp] theorem trapCountdown_link : (trapCountdown s).link = s.link := by
  unfold trapCountdown; split_ifs <;> rfl
@[simp] theorem trapCountdown_stackP : (trapCountdown s).stackP = s.stackP := by
  unfold trapCountdown; split_ifs <;> rfl
@[simp] theorem trapCountdown_pc16 : (trapCountdown s).pc16 = s.pc16 := by
  unfold trapCountdown; split_ifs <;> rfl
@[simp] theorem trapCountdown_ibFront : (trapCountdown s).ibFront = s.ibFront := by
  unfold trapCountdown; split_ifs <;> rfl
@[simp] theorem trapCountdown_ibPair : (trapCountdown s).ibPair = s.ibPair := by
  unfold trapCountdown; split_ifs <;> rfl
@[simp] theorem trapCountdown_ibPtr : (trapCountdown s).ibPtr = s.ibPtr := by
  unfold trapCountdown; split_ifs <;> rfl
@[simp] theorem trapCountdown_tc : (trapCountdown s).tc = s.tc := by
  unfold trapCountdown; split_ifs <;> rfl
@[simp] theorem trapCountdown_wake : (trapCountdown s).wake = s.wake := by
  unfold trapCountdown; split_ifs <;> rfl
@[simp] theorem trapCountdown_curTask : (trapCountdown s).curTask = s.curTask := by
  unfold trapCountdown; split_ifs <;> rfl
@[simp] theorem trapCountdown_cycle : (trapCountdown s).cycle = s.cycle := by
  unfold trapCountdown; split_ifs <;> rfl
@[simp] theorem trapCountdown_click : (trapCountdown s).click = s.click := by
  unfold trapCountdown; split_ifs <;> rfl
@[simp] theorem trapCountdown_errSet : (trapCountdown s).errSet = s.errSet := by
  unfold trapCountdown; split_ifs <;> rfl
@[simp] theorem trapCountdown_cs : (trapCountdown s).cs = s.cs := by
  unfold trapCountdown; split_ifs <;> rfl
@[simp] theorem trapCountdown_mint : (trapCountdown s).mint = s.mint := by
  unfold trapCountdown; split_ifs <;> rfl
@[simp] theorem trapCountdown_pageCrossLatch :
    (trapCountdown s).pageCrossLatch = s.pageCrossLatch := by
  unfold trapCountdown; split_ifs <;> rfl
@[simp] theorem trapCountdown_ibEmptyLatch :
    (trapCountdown s).ibEmptyLatch = s.ibEmptyLatch := by
  unfold trapCountdown; split_ifs <;> rfl
@[simp] theorem trapCountdown_kernelExit :
    (trapCountdown s).kernelExit = s.kernelExit := by
  unfold trapCountdown; split_ifs <;> rfl
@[simp] theorem trapCountdown_waiting : (trapCountdown s).waiting = s.waiting := by
  unfold trapCountdown; split_ifs <;> rfl
@[simp] theorem trapCountdown_params : (trapCountdown s).params = s.params := by
  unfold trapCountdown; split_ifs <;> rfl
@[simp] theorem trapCountdown_inputs : (trapCountdown s).inputs = s.inputs := by
  unfold trapCountdown; split_ifs <;> rfl
@[simp] theorem trapCountdown_script : (trapCountdown s).script = s.script := by
  unfold trapCountdown; split_ifs <;> rfl
@[simp] theorem trapCountdown_events : (trapCountdown s).events = s.events := by
  unfold trapCountdown; split_ifs <;> rfl

/-! ### Task switch -/

@[simp] theorem switchTo_r (t : Task) : (switchTo t s).r = s.r := by
  unfold switchTo; split_ifs <;> rfl
@[simp] theorem switchTo_q (t : Task) : (switchTo t s).q = s.q := by
  unfold switchTo; split_ifs <;> rfl
@[simp] theorem switchTo_flags (t : Task) : (switchTo t s).flags = s.flags := by
  unfold switchTo; split_ifs <;> rfl
@[simp] theorem switchTo_su (t : Task) : (switchTo t s).su = s.su := by
  unfold switchTo; split_ifs <;> rfl
@[simp] theorem switchTo_rh (t : Task) : (switchTo t s).rh = s.rh := by
  unfold switchTo; split_ifs <;> rfl
@[simp] theorem switchTo_link (t : Task) : (switchTo t s).link = s.link := by
  unfold switchTo; split_ifs <;> rfl
@[simp] theorem switchTo_stackP (t : Task) : (switchTo t s).stackP = s.stackP := by
  unfold switchTo; split_ifs <;> rfl
@[simp] theorem switchTo_pc16 (t : Task) : (switchTo t s).pc16 = s.pc16 := by
  unfold switchTo; split_ifs <;> rfl
@[simp] theorem switchTo_ibFront (t : Task) : (switchTo t s).ibFront = s.ibFront := by
  unfold switchTo; split_ifs <;> rfl
@[simp] theorem switchTo_ibPair (t : Task) : (switchTo t s).ibPair = s.ibPair := by
  unfold switchTo; split_ifs <;> rfl
@[simp] theorem switchTo_ibPtr (t : Task) : (switchTo t s).ibPtr = s.ibPtr := by
  unfold switchTo; split_ifs <;> rfl
@[simp] theorem switchTo_tpc (t : Task) : (switchTo t s).tpc = s.tpc := by
  unfold switchTo; split_ifs <;> rfl
@[simp] theorem switchTo_wake (t : Task) : (switchTo t s).wake = s.wake := by
  unfold switchTo; split_ifs <;> rfl
@[simp] theorem switchTo_cycle (t : Task) : (switchTo t s).cycle = s.cycle := by
  unfold switchTo; split_ifs <;> rfl
@[simp] theorem switchTo_click (t : Task) : (switchTo t s).click = s.click := by
  unfold switchTo; split_ifs <;> rfl
@[simp] theorem switchTo_errSet (t : Task) : (switchTo t s).errSet = s.errSet := by
  unfold switchTo; split_ifs <;> rfl
@[simp] theorem switchTo_trapCount (t : Task) :
    (switchTo t s).trapCount = s.trapCount := by
  unfold switchTo; split_ifs <;> rfl
@[simp] theorem switchTo_cs (t : Task) : (switchTo t s).cs = s.cs := by
  unfold switchTo; split_ifs <;> rfl
@[simp] theorem switchTo_mint (t : Task) : (switchTo t s).mint = s.mint := by
  unfold switchTo; split_ifs <;> rfl
@[simp] theorem switchTo_pageCrossLatch (t : Task) :
    (switchTo t s).pageCrossLatch = s.pageCrossLatch := by
  unfold switchTo; split_ifs <;> rfl
@[simp] theorem switchTo_ibEmptyLatch (t : Task) :
    (switchTo t s).ibEmptyLatch = s.ibEmptyLatch := by
  unfold switchTo; split_ifs <;> rfl
@[simp] theorem switchTo_kernelExit (t : Task) :
    (switchTo t s).kernelExit = s.kernelExit := by
  unfold switchTo; split_ifs <;> rfl
@[simp] theorem switchTo_waiting (t : Task) : (switchTo t s).waiting = s.waiting := by
  unfold switchTo; split_ifs <;> rfl
@[simp] theorem switchTo_params (t : Task) : (switchTo t s).params = s.params := by
  unfold switchTo; split_ifs <;> rfl
@[simp] theorem switchTo_inputs (t : Task) : (switchTo t s).inputs = s.inputs := by
  unfold switchTo; split_ifs <;> rfl
@[simp] theorem switchTo_script (t : Task) : (switchTo t s).script = s.script := by
  unfold switchTo; split_ifs <;> rfl
@[simp] theorem switchTo_events (t : Task) : (switchTo t s).events = s.events := by
  unfold switchTo; split_ifs <;> rfl
@[simp] theorem switchTo_curTask (t : Task) :
    (switchTo t s).curTask = t := by
  unfold switchTo; split_ifs with h
  · exact h.symm
  · rfl
@[simp] theorem scheduleNext_r : (scheduleNext s).r = s.r := by simp [scheduleNext]
@[simp] theorem scheduleNext_q : (scheduleNext s).q = s.q := by simp [scheduleNext]
@[simp] theorem scheduleNext_flags : (scheduleNext s).flags = s.flags := by simp [scheduleNext]
@[simp] theorem scheduleNext_su : (scheduleNext s).su = s.su := by simp [scheduleNext]
@[simp] theorem scheduleNext_rh : (scheduleNext s).rh = s.rh := by simp [scheduleNext]
@[simp] theorem scheduleNext_link : (scheduleNext s).link = s.link := by simp [scheduleNext]
@[simp] theorem scheduleNext_stackP : (scheduleNext s).stackP = s.stackP := by simp [scheduleNext]
@[simp] theorem scheduleNext_pc16 : (scheduleNext s).pc16 = s.pc16 := by simp [scheduleNext]
@[simp] theorem scheduleNext_ibFront : (scheduleNext s).ibFront = s.ibFront := by simp [scheduleNext]
@[simp] theorem scheduleNext_ibPair : (scheduleNext s).ibPair = s.ibPair := by simp [scheduleNext]
@[simp] theorem scheduleNext_ibPtr : (scheduleNext s).ibPtr = s.ibPtr := by simp [scheduleNext]
@[simp] theorem scheduleNext_tpc : (scheduleNext s).tpc = s.tpc := by simp [scheduleNext]
@[simp] theorem scheduleNext_wake : (scheduleNext s).wake = s.wake := by simp [scheduleNext]
@[simp] theorem scheduleNext_cycle : (scheduleNext s).cycle = s.cycle := by simp [scheduleNext]
@[simp] theorem scheduleNext_click : (scheduleNext s).click = s.click := by simp [scheduleNext]
@[simp] theorem scheduleNext_errSet : (scheduleNext s).errSet = s.errSet := by simp [scheduleNext]
@[simp] theorem scheduleNext_trapCount : (scheduleNext s).trapCount = s.trapCount := by simp [scheduleNext]
@[simp] theorem scheduleNext_cs : (scheduleNext s).cs = s.cs := by simp [scheduleNext]
@[simp] theorem scheduleNext_mint : (scheduleNext s).mint = s.mint := by simp [scheduleNext]
@[simp] theorem scheduleNext_pageCrossLatch : (scheduleNext s).pageCrossLatch = s.pageCrossLatch := by simp [scheduleNext]
@[simp] theorem scheduleNext_ibEmptyLatch : (scheduleNext s).ibEmptyLatch = s.ibEmptyLatch := by simp [scheduleNext]
@[simp] theorem scheduleNext_kernelExit : (scheduleNext s).kernelExit = false := by simp [scheduleNext]
@[simp] theorem scheduleNext_waiting : (scheduleNext s).waiting = s.waiting := by simp [scheduleNext]
@[simp] theorem scheduleNext_params : (scheduleNext s).params = s.params := by simp [scheduleNext]
@[simp] theorem scheduleNext_inputs : (scheduleNext s).inputs = s.inputs := by simp [scheduleNext]
@[simp] theorem scheduleNext_script : (scheduleNext s).script = s.script := by simp [scheduleNext]
@[simp] theorem scheduleNext_events : (scheduleNext s).events = s.events := by simp [scheduleNext]
@[simp] theorem scheduleNext_curTask : (scheduleNext s).curTask = nextTask s := by simp [scheduleNext]

/-! ### Click step -/

@[simp] theorem clickStep_r : (clickStep s).r = s.r := by simp [clickStep]
@[simp] theorem clickStep_q : (clickStep s).q = s.q := by simp [clickStep]
@[simp] theorem clickStep_flags : (clickStep s).flags = s.flags := by simp [clickStep]
@[simp] theorem clickStep_su : (clickStep s).su = s.su := by simp [clickStep]
@[simp] theorem clickStep_rh : (clickStep s).rh = s.rh := by simp [clickStep]
@[simp] theorem clickStep_link : (clickStep s).link = s.link := by simp [clickStep]
@[simp] theorem clickStep_stackP : (clickStep s).stackP = s.stackP := by simp [clickStep]
@[simp] theorem clickStep_pc16 : (clickStep s).pc16 = s.pc16 := by simp [clickStep]
@[simp] theorem clickStep_ibFront : (clickStep s).ibFront = s.ibFront := by simp [clickStep]
@[simp] theorem clickStep_ibPair : (clickStep s).ibPair = s.ibPair := by simp [clickStep]
@[simp] theorem clickStep_ibPtr : (clickStep s).ibPtr = s.ibPtr := by simp [clickStep]
@[simp] theorem clickStep_wake : (clickStep s).wake = s.wake := by simp [clickStep]
@[simp] theorem clickStep_cycle : (clickStep s).cycle = s.cycle := by simp [clickStep]
@[simp] theorem clickStep_errSet : (clickStep s).errSet = s.errSet := by simp [clickStep]
@[simp] theorem clickStep_cs : (clickStep s).cs = s.cs := by simp [clickStep]
@[simp] theorem clickStep_mint : (clickStep s).mint = s.mint := by simp [clickStep]
@[simp] theorem clickStep_waiting : (clickStep s).waiting = s.waiting := by simp [clickStep]
@[simp] theorem clickStep_params : (clickStep s).params = s.params := by simp [clickStep]
@[simp] theorem clickStep_inputs : (clickStep s).inputs = s.inputs := by simp [clickStep]
@[simp] theorem clickStep_script : (clickStep s).script = s.script := by simp [clickStep]
@[simp] theorem clickStep_events : (clickStep s).events = s.events := by simp [clickStep]
@[simp] theorem clickStep_click : (clickStep s).click = s.click + 1 := by simp [clickStep]
@[simp] theorem clickStep_pageCrossLatch : (clickStep s).pageCrossLatch = false := by simp [clickStep]
@[simp] theorem clickStep_ibEmptyLatch : (clickStep s).ibEmptyLatch = false := by simp [clickStep]
@[simp] theorem clickStep_kernelExit : (clickStep s).kernelExit = false := by simp [clickStep]

/-! ### Cycle advance -/

@[simp] theorem advanceCycle_r : (advanceCycle s).r = s.r := by
  unfold advanceCycle; split <;> simp
@[simp] theorem advanceCycle_q : (advanceCycle s).q = s.q := by
  unfold advanceCycle; split <;> simp
@[simp] theorem advanceCycle_flags : (advanceCycle s).flags = s.flags := by
  unfold advanceCycle; split <;> simp
@[simp] theorem advanceCycle_su : (advanceCycle s).su = s.su := by
  unfold advanceCycle; split <;> simp
@[simp] theorem advanceCycle_rh : (advanceCycle s).rh = s.rh := by
  unfold advanceCycle; split <;> simp
@[simp] theorem advanceCycle_link : (advanceCycle s).link = s.link := by
  unfold advanceCycle; split <;> simp
@[simp] theorem advanceCycle_stackP : (advanceCycle s).stackP = s.stackP := by
  unfold advanceCycle; split <;> simp
@[simp] theorem advanceCycle_pc16 : (advanceCycle s).pc16 = s.pc16 := by
  unfold advanceCycle; split <;> simp
@[simp] theorem advanceCycle_ibFront : (advanceCycle s).ibFront = s.ibFront := by
  unfold advanceCycle; split <;> simp
@[simp] theorem advanceCycle_ibPair : (advanceCycle s).ibPair = s.ibPair := by
  unfold advanceCycle; split <;> simp
@[simp] theorem advanceCycle_ibPtr : (advanceCycle s).ibPtr = s.ibPtr := by
  unfold advanceCycle; split <;> simp
@[simp] theorem advanceCycle_wake : (advanceCycle s).wake = s.wake := by
  unfold advanceCycle; split <;> simp
@[simp] theorem advanceCycle_errSet : (advanceCycle s).errSet = s.errSet := by
  unfold advanceCycle; split <;> simp
@[simp] theorem advanceCycle_cs : (advanceCycle s).cs = s.cs := by
  unfold advanceCycle; split <;> simp
@[simp] theorem advanceCycle_mint : (advanceCycle s).mint = s.mint := by
  unfold advanceCycle; split <;> simp
@[simp] theorem advanceCycle_waiting : (advanceCycle s).waiting = s.waiting := by
  unfold advanceCycle; split <;> simp
@[simp] theorem advanceCycle_params : (advanceCycle s).params = s.params := by
  unfold advanceCycle; split <;> simp
@[simp] theorem advanceCycle_inputs : (advanceCycle s).inputs = s.inputs := by
  unfold advanceCycle; split <;> simp
@[simp] theorem advanceCycle_script : (advanceCycle s).script = s.script := by
  unfold advanceCycle; split <;> simp
@[simp] theorem advanceCycle_events : (advanceCycle s).events = s.events := by
  unfold advanceCycle; split <;> simp

/-! ### Raises -/

@[simp] theorem raiseAll_r (cs : List Cause) :
    (raiseAll cs s).r = s.r := by
  induction cs generalizing s with
  | nil => rfl
  | cons c rest ih => simp [raiseAll, ih]
@[simp] theorem raiseAll_q (cs : List Cause) :
    (raiseAll cs s).q = s.q := by
  induction cs generalizing s with
  | nil => rfl
  | cons c rest ih => simp [raiseAll, ih]
@[simp] theorem raiseAll_flags (cs : List Cause) :
    (raiseAll cs s).flags = s.flags := by
  induction cs generalizing s with
  | nil => rfl
  | cons c rest ih => simp [raiseAll, ih]
@[simp] theorem raiseAll_su (cs : List Cause) :
    (raiseAll cs s).su = s.su := by
  induction cs generalizing s with
  | nil => rfl
  | cons c rest ih => simp [raiseAll, ih]
@[simp] theorem raiseAll_rh (cs : List Cause) :
    (raiseAll cs s).rh = s.rh := by
  induction cs generalizing s with
  | nil => rfl
  | cons c rest ih => simp [raiseAll, ih]
@[simp] theorem raiseAll_link (cs : List Cause) :
    (raiseAll cs s).link = s.link := by
  induction cs generalizing s with
  | nil => rfl
  | cons c rest ih => simp [raiseAll, ih]
@[simp] theorem raiseAll_stackP (cs : List Cause) :
    (raiseAll cs s).stackP = s.stackP := by
  induction cs generalizing s with
  | nil => rfl
  | cons c rest ih => simp [raiseAll, ih]
@[simp] theorem raiseAll_pc16 (cs : List Cause) :
    (raiseAll cs s).pc16 = s.pc16 := by
  induction cs generalizing s with
  | nil => rfl
  | cons c rest ih => simp [raiseAll, ih]
@[simp] theorem raiseAll_ibFront (cs : List Cause) :
    (raiseAll cs s).ibFront = s.ibFront := by
  induction cs generalizing s with
  | nil => rfl
  | cons c rest ih => simp [raiseAll, ih]
@[simp] theorem raiseAll_ibPair (cs : List Cause) :
    (raiseAll cs s).ibPair = s.ibPair := by
  induction cs generalizing s with
  | nil => rfl
  | cons c rest ih => simp [raiseAll, ih]
@[simp] theorem raiseAll_ibPtr (cs : List Cause) :
    (raiseAll cs s).ibPtr = s.ibPtr := by
  induction cs generalizing s with
  | nil => rfl
  | cons c rest ih => simp [raiseAll, ih]
@[simp] theorem raiseAll_tpc (cs : List Cause) :
    (raiseAll cs s).tpc = s.tpc := by
  induction cs generalizing s with
  | nil => rfl
  | cons c rest ih => simp [raiseAll, ih]
@[simp] theorem raiseAll_tc (cs : List Cause) :
    (raiseAll cs s).tc = s.tc := by
  induction cs generalizing s with
  | nil => rfl
  | cons c rest ih => simp [raiseAll, ih]
@[simp] theorem raiseAll_wake (cs : List Cause) :
    (raiseAll cs s).wake = s.wake := by
  induction cs generalizing s with
  | nil => rfl
  | cons c rest ih => simp [raiseAll, ih]
@[simp] theorem raiseAll_curTask (cs : List Cause) :
    (raiseAll cs s).curTask = s.curTask := by
  induction cs generalizing s with
  | nil => rfl
  | cons c rest ih => simp [raiseAll, ih]
@[simp] theorem raiseAll_cycle (cs : List Cause) :
    (raiseAll cs s).cycle = s.cycle := by
  induction cs generalizing s with
  | nil => rfl
  | cons c rest ih => simp [raiseAll, ih]
@[simp] theorem raiseAll_click (cs : List Cause) :
    (raiseAll cs s).click = s.click := by
  induction cs generalizing s with
  | nil => rfl
  | cons c rest ih => simp [raiseAll, ih]
@[simp] theorem raiseAll_cs (cs : List Cause) :
    (raiseAll cs s).cs = s.cs := by
  induction cs generalizing s with
  | nil => rfl
  | cons c rest ih => simp [raiseAll, ih]
@[simp] theorem raiseAll_mint (cs : List Cause) :
    (raiseAll cs s).mint = s.mint := by
  induction cs generalizing s with
  | nil => rfl
  | cons c rest ih => simp [raiseAll, ih]
@[simp] theorem raiseAll_niax (cs : List Cause) :
    (raiseAll cs s).niax = s.niax := by
  induction cs generalizing s with
  | nil => rfl
  | cons c rest ih => simp [raiseAll, ih]
@[simp] theorem raiseAll_pendKind (cs : List Cause) :
    (raiseAll cs s).pendKind = s.pendKind := by
  induction cs generalizing s with
  | nil => rfl
  | cons c rest ih => simp [raiseAll, ih]
@[simp] theorem raiseAll_pageCrossLatch (cs : List Cause) :
    (raiseAll cs s).pageCrossLatch = s.pageCrossLatch := by
  induction cs generalizing s with
  | nil => rfl
  | cons c rest ih => simp [raiseAll, ih]
@[simp] theorem raiseAll_ibEmptyLatch (cs : List Cause) :
    (raiseAll cs s).ibEmptyLatch = s.ibEmptyLatch := by
  induction cs generalizing s with
  | nil => rfl
  | cons c rest ih => simp [raiseAll, ih]
@[simp] theorem raiseAll_kernelExit (cs : List Cause) :
    (raiseAll cs s).kernelExit = s.kernelExit := by
  induction cs generalizing s with
  | nil => rfl
  | cons c rest ih => simp [raiseAll, ih]
@[simp] theorem raiseAll_waiting (cs : List Cause) :
    (raiseAll cs s).waiting = s.waiting := by
  induction cs generalizing s with
  | nil => rfl
  | cons c rest ih => simp [raiseAll, ih]
@[simp] theorem raiseAll_params (cs : List Cause) :
    (raiseAll cs s).params = s.params := by
  induction cs generalizing s with
  | nil => rfl
  | cons c rest ih => simp [raiseAll, ih]
@[simp] theorem raiseAll_inputs (cs : List Cause) :
    (raiseAll cs s).inputs = s.inputs := by
  induction cs generalizing s with
  | nil => rfl
  | cons c rest ih => simp [raiseAll, ih]
@[simp] theorem raiseAll_script (cs : List Cause) :
    (raiseAll cs s).script = s.script := by
  induction cs generalizing s with
  | nil => rfl
  | cons c rest ih => simp [raiseAll, ih]
@[simp] theorem raiseAll_events (cs : List Cause) :
    (raiseAll cs s).events = s.events := by
  induction cs generalizing s with
  | nil => rfl
  | cons c rest ih => simp [raiseAll, ih]

/-! ### The cycle -/

variable (m : Micro)

@[simp] theorem cycleNext_r : (cycleNext m s).r = nextR m s := by simp [cycleNext]
@[simp] theorem cycleNext_q : (cycleNext m s).q = nextQ m s := by simp [cycleNext]
@[simp] theorem cycleNext_flags : (cycleNext m s).flags = (aluOut m s).flags := by simp [cycleNext]
@[simp] theorem cycleNext_su : (cycleNext m s).su = nextSu m s := by simp [cycleNext]
@[simp] theorem cycleNext_rh : (cycleNext m s).rh = nextRh m s := by simp [cycleNext]
@[simp] theorem cycleNext_link : (cycleNext m s).link = nextLink m s := by simp [cycleNext]
@[simp] theorem cycleNext_stackP : (cycleNext m s).stackP = nextStackP m s := by simp [cycleNext]
@[simp] theorem cycleNext_pc16 : (cycleNext m s).pc16 = (if m.cinToggle then !s.pc16 else s.pc16) := by simp [cycleNext]
@[simp] theorem cycleNext_ibFront : (cycleNext m s).ibFront = (nextIb m s).front := by simp [cycleNext]
@[simp] theorem cycleNext_ibPair : (cycleNext m s).ibPair = (nextIb m s).pair := by simp [cycleNext]
@[simp] theorem cycleNext_ibPtr : (cycleNext m s).ibPtr = (nextIb m s).ptr := by simp [cycleNext]
@[simp] theorem cycleNext_wake : (cycleNext m s).wake = nextWake m s := by simp [cycleNext]
@[simp] theorem cycleNext_cs : (cycleNext m s).cs = s.cs := by simp [cycleNext]
@[simp] theorem cycleNext_mint : (cycleNext m s).mint = nextMint m s := by simp [cycleNext]
@[simp] theorem cycleNext_waiting : (cycleNext m s).waiting = (s.waiting && !m.enterKernel) := by simp [cycleNext]
@[simp] theorem cycleNext_params : (cycleNext m s).params = s.params := by simp [cycleNext]
@[simp] theorem cycleNext_inputs : (cycleNext m s).inputs = s.inputs := by simp [cycleNext]
@[simp] theorem cycleNext_script : (cycleNext m s).script = s.script := by simp [cycleNext]
@[simp] theorem cycleNext_events : (cycleNext m s).events = s.events ++ cycleEvents m s := by simp [cycleNext]

end Sys2Proof.Machine
end

