-- ==== Sys2Proof/Laws/Encoding.lean ====
section
/-! SUPPORT. Slices of an encoded word: every field of the 48-bit format read back from `encodeMicro`, and every code read back as
the name it stands for. The round trip of the decoder is assembled from these. -/

namespace Sys2Proof

/-! ### Slices of a concatenation -/

/-- A slice that lies in the low part of a concatenation. -/
theorem extract_append_low {a b : Nat} (x : BitVec a) (y : BitVec b) (start len : Nat) (h : start + len ≤ b) :
    (x ++ y).extractLsb' start len = y.extractLsb' start len := by
  ext i hi
  simp [BitVec.getLsbD_append]
  omega

/-- A slice that lies in the high part of a concatenation. -/
theorem extract_append_high {a b : Nat} (x : BitVec a) (y : BitVec b) (start len : Nat) (h : b ≤ start) :
    (x ++ y).extractLsb' start len = x.extractLsb' (start - b) len := by
  ext i hi
  have hb : ¬ start + i < b := by omega
  simp [BitVec.getLsbD_append, hb]
  congr 1
  omega

/-- The whole of a value. -/
theorem extract_self {a : Nat} (x : BitVec a) : x.extractLsb' 0 a = x := by
  ext i hi
  simp

/-- One bit is a slice of length 1. -/
theorem ofBool_bitAt (w : MWord) (i : Nat) : BitVec.ofBool (bitAt w i) = w.extractLsb' i 1 := by
  ext j hj
  obtain rfl : j = 0 := by omega
  simp [bitAt]

/-- A bit read as a slice of length 1. -/
theorem bitAt_eq_of_extract {w : MWord} {i : Nat} {b : Bool} (h : w.extractLsb' i 1 = BitVec.ofBool b) : bitAt w i = b := by
  rw [← ofBool_bitAt] at h
  revert h
  cases bitAt w i <;> cases b <;> decide

/-! ### The fields of an encoded word (30_encoding.md R90) -/

theorem encodeMicro_rA (m : Micro) : (encodeMicro m).extractLsb' 44 4 = m.rA := by
  unfold encodeMicro
  repeat refine (extract_append_high _ _ _ _ (by decide)).trans ?_
  exact extract_self _

theorem encodeMicro_rB (m : Micro) : (encodeMicro m).extractLsb' 40 4 = m.rB := by
  unfold encodeMicro
  repeat refine (extract_append_high _ _ _ _ (by decide)).trans ?_
  exact (extract_append_low _ _ _ _ (by decide)).trans (extract_self _)

theorem encodeMicro_aS (m : Micro) : (encodeMicro m).extractLsb' 37 3 = m.aS.code := by
  unfold encodeMicro
  repeat refine (extract_append_high _ _ _ _ (by decide)).trans ?_
  exact (extract_append_low _ _ _ _ (by decide)).trans (extract_self _)

theorem encodeMicro_aF (m : Micro) : (encodeMicro m).extractLsb' 34 3 = m.aF.code := by
  unfold encodeMicro
  repeat refine (extract_append_high _ _ _ _ (by decide)).trans ?_
  exact (extract_append_low _ _ _ _ (by decide)).trans (extract_self _)

theorem encodeMicro_aD (m : Micro) : (encodeMicro m).extractLsb' 32 2 = m.aD.code := by
  unfold encodeMicro
  repeat refine (extract_append_high _ _ _ _ (by decide)).trans ?_
  exact (extract_append_low _ _ _ _ (by decide)).trans (extract_self _)

theorem encodeMicro_ep (m : Micro) : (encodeMicro m).extractLsb' 31 1 = BitVec.ofBool m.ep := by
  unfold encodeMicro
  repeat refine (extract_append_high _ _ _ _ (by decide)).trans ?_
  exact (extract_append_low _ _ _ _ (by decide)).trans (extract_self _)

theorem encodeMicro_cin (m : Micro) : (encodeMicro m).extractLsb' 30 1 = BitVec.ofBool m.cin := by
  unfold encodeMicro
  repeat refine (extract_append_high _ _ _ _ (by decide)).trans ?_
  exact (extract_append_low _ _ _ _ (by decide)).trans (extract_self _)

theorem encodeMicro_enSU (m : Micro) : (encodeMicro m).extractLsb' 29 1 = BitVec.ofBool m.enSU := by
  unfold encodeMicro
  repeat refine (extract_append_high _ _ _ _ (by decide)).trans ?_
  exact (extract_append_low _ _ _ _ (by decide)).trans (extract_self _)

theorem encodeMicro_mem (m : Micro) : (encodeMicro m).extractLsb' 28 1 = BitVec.ofBool m.mem := by
  unfold encodeMicro
  repeat refine (extract_append_high _ _ _ _ (by decide)).trans ?_
  exact (extract_append_low _ _ _ _ (by decide)).trans (extract_self _)

theorem encodeMicro_yMode (m : Micro) : (encodeMicro m).extractLsb' 26 2 = m.planes.yMode := by
  unfold encodeMicro
  repeat refine (extract_append_high _ _ _ _ (by decide)).trans ?_
  exact (extract_append_low _ _ _ _ (by decide)).trans (extract_self _)

theorem encodeMicro_zMode (m : Micro) : (encodeMicro m).extractLsb' 24 2 = m.planes.zMode := by
  unfold encodeMicro
  repeat refine (extract_append_high _ _ _ _ (by decide)).trans ?_
  exact (extract_append_low _ _ _ _ (by decide)).trans (extract_self _)

theorem encodeMicro_fY (m : Micro) : (encodeMicro m).extractLsb' 20 4 = m.planes.fY := by
  unfold encodeMicro
  repeat refine (extract_append_high _ _ _ _ (by decide)).trans ?_
  exact (extract_append_low _ _ _ _ (by decide)).trans (extract_self _)

theorem encodeMicro_fX (m : Micro) : (encodeMicro m).extractLsb' 16 4 = m.x.code := by
  unfold encodeMicro
  repeat refine (extract_append_high _ _ _ _ (by decide)).trans ?_
  exact (extract_append_low _ _ _ _ (by decide)).trans (extract_self _)

theorem encodeMicro_fZ (m : Micro) : (encodeMicro m).extractLsb' 12 4 = m.planes.fZ := by
  unfold encodeMicro
  repeat refine (extract_append_high _ _ _ _ (by decide)).trans ?_
  exact (extract_append_low _ _ _ _ (by decide)).trans (extract_self _)

theorem encodeMicro_inia (m : Micro) : (encodeMicro m).extractLsb' 0 12 = m.inia := by
  unfold encodeMicro
  exact (extract_append_low _ _ _ _ (by decide)).trans (extract_self _)

/-- The three bits of `fX` that shift and cycle share (R121, R122). -/
theorem encodeMicro_fXHigh (m : Micro) : (encodeMicro m).extractLsb' 17 3 = m.x.code.extractLsb' 1 3 := by
  unfold encodeMicro
  repeat refine (extract_append_high _ _ _ _ (by decide)).trans ?_
  exact extract_append_low _ _ _ _ (by decide)

/-! ### Codes and names -/

@[simp] theorem SrcPair.ofCode_code (p : SrcPair) : SrcPair.ofCode p.code = p := by cases p <;> rfl

@[simp] theorem AluFn.ofCode_code (p : AluFn) : AluFn.ofCode p.code = p := by cases p <;> rfl

@[simp] theorem WbSel.ofCode_code (p : WbSel) : WbSel.ofCode p.code = p := by cases p <;> rfl

@[simp] theorem YNorm.ofCode_code (p : YNorm) : YNorm.ofCode p.code = p := by cases p <;> rfl

@[simp] theorem YBranch.ofCode_code (p : YBranch) : YBranch.ofCode p.code = p := by cases p <;> rfl

@[simp] theorem ZNorm.ofCode_code (p : ZNorm) : ZNorm.ofCode p.code = p := by cases p <;> rfl

@[simp] theorem ZInput.ofCode_code (p : ZInput) : ZInput.ofCode p.code = p := by cases p <;> rfl

@[simp] theorem SrcPair.code_ofCode (c : BitVec 3) : (SrcPair.ofCode c).code = c := by revert c; decide

@[simp] theorem AluFn.code_ofCode (c : BitVec 3) : (AluFn.ofCode c).code = c := by revert c; decide

@[simp] theorem WbSel.code_ofCode (c : BitVec 2) : (WbSel.ofCode c).code = c := by revert c; decide

@[simp] theorem YNorm.code_ofCode (c : BitVec 4) : (YNorm.ofCode c).code = c := by revert c; decide

@[simp] theorem YBranch.code_ofCode (c : BitVec 4) : (YBranch.ofCode c).code = c := by revert c; decide

@[simp] theorem ZNorm.code_ofCode (c : BitVec 4) : (ZNorm.ofCode c).code = c := by revert c; decide

@[simp] theorem ZInput.code_ofCode (c : BitVec 4) : (ZInput.ofCode c).code = c := by revert c; decide

@[simp] theorem XOp.ofCode_code (x : XOp) : XOp.ofCode x.code = x := by
  cases x with
  | link i => revert i; decide
  | _ => rfl

@[simp] theorem XOp.code_ofCode (c : BitVec 4) : (XOp.ofCode c).code = c := by revert c; decide

/-- Codes 10 and 11 of `fX` are shift and cycle, and no other code has their three high bits. -/
theorem XOp.isShiftOrCycle_code (x : XOp) : x.isShiftOrCycle = decide ((x.code.extractLsb' 1 3).toNat = 5) := by
  cases x with
  | link i => revert i; decide
  | _ => rfl

@[simp] theorem Planes.yMode_byte (imm : BitVec 8) (zm : BitVec 2) : (Planes.byte imm zm).yMode = 3 := rfl
@[simp] theorem Planes.zMode_byte (imm : BitVec 8) (zm : BitVec 2) : (Planes.byte imm zm).zMode = zm := rfl

/-- Outside byte mode the mode field of the Y plane is not 3. -/
theorem Planes.yMode_yz_ne (y : YOp) (z : ZOp) : (Planes.yz y z).yMode.toNat ≠ 3 := by cases y <;> simp [Planes.yMode]

/-- A slice row of the opcode table, written out. -/
theorem FixedField.holds_mk (lo len value : Nat) (w : MWord) :
    (FixedField.mk lo len value).holds w = decide ((w.extractLsb' lo len).toNat = value) := rfl

end Sys2Proof
end

