-- ==== Sys2Proof/Laws/Memory.lean ====
section
/-! SUPPORT. The basic laws of the register files and of the control store: a read after a write, the canonical form kept by every
operation, and canonical stores equal when they read equal. -/

namespace Sys2Proof.Machine

/-! ### Register files -/

section Files

variable {α : Type} {k : Nat}

@[simp] theorem rd_wr_same (v : Vector α (2 ^ k)) (i : BitVec k) (x : α) : rd (wr v i x) i = x := by
  simp [rd, wr]

theorem rd_wr_of_ne (v : Vector α (2 ^ k)) {i j : BitVec k} (x : α) (h : j ≠ i) : rd (wr v i x) j = rd v j := by
  have hne : i.toNat ≠ j.toNat := fun e => h (BitVec.eq_of_toNat_eq e.symm)
  simp [rd, wr, hne]

theorem rd_wr (v : Vector α (2 ^ k)) (i j : BitVec k) (x : α) : rd (wr v i x) j = if j = i then x else rd v j := by
  split_ifs with h
  · rw [h, rd_wr_same]
  · exact rd_wr_of_ne v x h

@[simp] theorem rd_replicate (x : α) (i : BitVec k) : rd (Vector.replicate (2 ^ k) x) i = x := by
  simp [rd]

/-- Two files that read equal everywhere are equal. -/
theorem file_ext {v w : Vector α (2 ^ k)} (h : ∀ i : BitVec k, rd v i = rd w i) : v = w := by
  ext n hn
  have := h (BitVec.ofNat k n)
  simpa [rd, Nat.mod_eq_of_lt hn] using this

end Files

/-- Different tasks have different entries. -/
theorem Task.id_injective : ∀ t u : Task, t.id = u.id → t = u := by
  intro t u
  cases t <;> cases u <;> decide

/-! ### Control store -/

@[simp] theorem Memory.read_nil (a : Nat) : Memory.read [] a = csFill := rfl

theorem Memory.wfFrom_mono {m : Memory} : ∀ {lo lo' : Nat}, lo' ≤ lo → Memory.wfFrom lo m = true →
    Memory.wfFrom lo' m = true := by
  cases m with
  | nil => intros; rfl
  | cons c rest =>
    intro lo lo' hle h
    simp only [Memory.wfFrom, Bool.and_eq_true, decide_eq_true_eq] at h ⊢
    exact ⟨⟨⟨Nat.le_trans hle h.1.1.1, h.1.1.2⟩, h.1.2⟩, h.2⟩

/-- Below its first address a canonical store reads as unlisted. -/
theorem Memory.read_below {m : Memory} : ∀ {lo a : Nat}, Memory.wfFrom lo m = true → a < lo → Memory.read m a = csFill := by
  induction m with
  | nil => intros; rfl
  | cons c rest ih =>
    intro lo a h ha
    obtain ⟨b, v⟩ := c
    simp only [Memory.wfFrom, Bool.and_eq_true, decide_eq_true_eq] at h
    have hne : a ≠ b := by omega
    simp only [Memory.read, hne, if_false]
    exact ih h.2 (by omega)

/-- A write reads back, and every other address reads as before. -/
theorem Memory.read_write {m : Memory} : ∀ {lo : Nat}, Memory.wfFrom lo m = true → ∀ a b w,
    Memory.read (Memory.write m a w) b = if b = a then w else Memory.read m b := by
  induction m with
  | nil =>
    intro lo _ a b w
    simp only [Memory.write]
    by_cases hw : w = csFill <;> by_cases hb : b = a <;> simp [Memory.read, hw, hb]
  | cons c rest ih =>
    intro lo h a b w
    obtain ⟨x, v⟩ := c
    simp only [Memory.wfFrom, Bool.and_eq_true, decide_eq_true_eq] at h
    simp only [Memory.write]
    rcases Nat.lt_trichotomy a x with hax | hax | hax
    · have hbelow : b = a → Memory.read rest b = csFill := fun e => Memory.read_below h.2 (by omega)
      by_cases hw : w = csFill
      · by_cases hb : b = a
        · have : b ≠ x := by omega
          simp [hax, hw, Memory.read, hb, hb ▸ this, hb ▸ hbelow hb]
        · simp [hax, hw, hb]
      · simp only [hax, hw, if_true, if_false, Memory.read]
    · subst hax
      by_cases hw : w = csFill
      · by_cases hb : b = a
        · simp [hw, hb, Memory.read_below h.2 (Nat.lt_succ_self a)]
        · simp [hw, hb, Memory.read]
      · by_cases hb : b = a <;> simp [hw, hb, Memory.read]
    · have h1 : ¬ a < x := by omega
      have h2 : ¬ a = x := by omega
      simp only [h1, h2, if_false, Memory.read, ih h.2 a b w]
      by_cases hbx : b = x
      · have : ¬ b = a := by omega
        simp [hbx, hbx ▸ this]
      · simp [hbx]

/-- A write keeps the canonical form. -/
theorem Memory.wfFrom_write {m : Memory} : ∀ {lo : Nat}, Memory.wfFrom lo m = true → ∀ {a : Nat}, lo ≤ a → a < 4096 → ∀ w,
    Memory.wfFrom lo (Memory.write m a w) = true := by
  induction m with
  | nil =>
    intro lo _ a hlo ha w
    simp only [Memory.write]
    by_cases hw : w = csFill <;> simp [Memory.wfFrom, hw, hlo, ha]
  | cons c rest ih =>
    intro lo h a hlo ha w
    obtain ⟨x, v⟩ := c
    have hc := h
    simp only [Memory.wfFrom, Bool.and_eq_true, decide_eq_true_eq] at h
    simp only [Memory.write]
    rcases Nat.lt_trichotomy a x with hax | hax | hax
    · by_cases hw : w = csFill
      · simpa [hax, hw] using hc
      · have hx : a + 1 ≤ x := hax
        simp [hax, hw, Memory.wfFrom, hlo, ha, hx, h.1.1.2, h.1.2, h.2]
    · subst hax
      by_cases hw : w = csFill
      · simp only [hw, lt_irrefl, if_false, if_true]
        exact Memory.wfFrom_mono (by omega) h.2
      · simp [hw, Memory.wfFrom, hlo, ha, h.2]
    · have h1 : ¬ a < x := by omega
      have h2 : ¬ a = x := by omega
      simp [h1, h2, Memory.wfFrom, h.1.1.1, h.1.1.2, h.1.2, ih h.2 (by omega) ha w]

/-- `CSWrite` keeps the canonical form. -/
theorem csWrite_wf {s : State} (h : Memory.wf s.cs = true) (a : MAddr) (w : MWord) :
    Memory.wf (csWrite a w s).cs = true :=
  Memory.wfFrom_write h (Nat.zero_le _) a.isLt w

/-- A word written is the word read at its address, and every other address reads as before (20_memory.md R62, R63). -/
theorem csRead_csWrite {s : State} (h : Memory.wf s.cs = true) (a b : MAddr) (w : MWord) :
    csRead (csWrite a w s) b = if b = a then w else csRead s b := by
  have key : (b.toNat = a.toNat) ↔ b = a := ⟨BitVec.eq_of_toNat_eq, fun e => e ▸ rfl⟩
  simp only [csRead, csWrite_cs, Memory.read_write h, key]

/-- The reset control store is canonical. -/
theorem reset_cs_wf : Memory.wf State.reset.cs = true := rfl

end Sys2Proof.Machine
end

