-- ==== Sys2Proof/Laws/Ops.lean ====
section
/-! SUPPORT. One lemma for each shared operation that says everything it can do. Proofs cite these and never unfold the
operation. -/

namespace Sys2Proof.Machine

/-! ### Instructions and cycles -/

/-- Every row of a microinstruction runs the whole microinstruction. -/
theorem exec_eq_runCycle (i : Instr) (s : State) : exec i s = runCycle i.micro s := by
  cases i <;> rfl

/-- A cycle that answers a next state answers this one. -/
theorem runCycle_next {m : Micro} {s t : State} (h : runCycle m s = .next t) :
    ibLoadRefusal m s = none ∧ t = cycleNext m s := by
  unfold runCycle at h
  cases hr : ibLoadRefusal m s with
  | some r => simp [hr] at h
  | none => exact ⟨rfl, by simpa [hr] using h.symm⟩

theorem runCycle_of_none {m : Micro} {s : State} (h : ibLoadRefusal m s = none) : runCycle m s = .next (cycleNext m s) := by
  simp [runCycle, h]

/-- The only microinstructions without a meaning are the buffer loads of 46_ib.md R313. -/
theorem ibLoadRefusal_eq_none_iff (m : Micro) (s : State) : ibLoadRefusal m s = none ↔ Runs m s := by
  unfold ibLoadRefusal Runs
  cases hl : m.ibLoad <;> cases ha : m.alwaysDisp <;> cases hp : m.peekAdvances <;> cases hb : s.ibPtr <;>
    simp [IbPtr.hasRoom]

/-- A cycle completes exactly where the microinstruction has a meaning. -/
theorem runCycle_of_runs {m : Micro} {s : State} (h : Runs m s) : runCycle m s = .next (cycleNext m s) :=
  runCycle_of_none ((ibLoadRefusal_eq_none_iff m s).mpr h)

theorem exec_of_runs {i : Instr} {s : State} (h : Runs i.micro s) : exec i s = .next (cycleNext i.micro s) := by
  rw [exec_eq_runCycle, runCycle_of_runs h]

theorem exec_next {i : Instr} {s t : State} (h : exec i s = .next t) : Runs i.micro s ∧ t = cycleNext i.micro s := by
  rw [exec_eq_runCycle] at h
  obtain ⟨hn, ht⟩ := runCycle_next h
  exact ⟨(ibLoadRefusal_eq_none_iff _ _).mp hn, ht⟩

/-- A microinstruction that codes no buffer load always runs. -/
theorem runs_of_not_ibLoad {m : Micro} {s : State} (h : m.ibLoad = false) : Runs m s := by simp [Runs, h]

/-! ### Raises -/

/-- The causes signaled after a list of raises. -/
theorem raiseAll_has (cs : List Cause) (s : State) (c : Cause) :
    (raiseAll cs s).errSet.has c = (s.errSet.has c || decide (c ∈ cs)) := by
  induction cs generalizing s with
  | nil => simp [raiseAll]
  | cons d rest ih =>
    have hd : ∀ e : ErrSet, (e.insert d).has c = (e.has c || decide (c = d)) := by
      intro e
      cases c <;> cases d <;> simp [ErrSet.insert, ErrSet.has]
    simp [raiseAll, ih, hd, Bool.or_assoc]

/-- Once a trap is pending, a raise leaves the countdown alone. -/
theorem raiseAll_trapCount_of_pending (cs : List Cause) (s : State) (h : s.trapCount ≠ 0) :
    (raiseAll cs s).trapCount = s.trapCount := by
  induction cs generalizing s with
  | nil => rfl
  | cons c rest ih =>
    have hr : (raiseErr c s).trapCount = s.trapCount := by simp [h]
    rw [raiseAll, ih _ (by rw [hr]; exact h), hr]

theorem TrapDelay.count_pos (d : TrapDelay) : 0 < d.count := by cases d <;> decide

theorem TrapDelay.count_le (d : TrapDelay) : d.count ≤ 2 := by cases d <;> decide

/-- With no trap pending, the first cause raised chooses the countdown. -/
theorem raiseAll_trapCount_of_none (c : Cause) (rest : List Cause) (s : State) (h : s.trapCount = 0) :
    (raiseAll (c :: rest) s).trapCount = (s.params.trapDelay c s.cycle).count := by
  have hr : (raiseErr c s).trapCount = (s.params.trapDelay c s.cycle).count := by simp [h]
  rw [raiseAll, raiseAll_trapCount_of_pending, hr]
  rw [hr]
  exact Nat.ne_of_gt (TrapDelay.count_pos _)

/-- A cycle never signals the parity cause (60_exceptions.md R402). -/
theorem parity_not_raised (m : Micro) (s : State) : Cause.controlStoreParity ∉ cycleRaises m s := by
  simp [cycleRaises]

/-! ### The trap countdown and the click step -/

/-- Everything the countdown can do (60_exceptions.md R408, R409). -/
theorem trapCountdown_cases (s : State) :
    (¬ (s.curTask = .emulator ∧ 0 < s.trapCount) ∧ trapCountdown s = s)
      ∨ (s.curTask = .emulator ∧ s.trapCount = 1 ∧ trapCountdown s = takeTrap { s with trapCount := 0 })
      ∨ (s.curTask = .emulator ∧ 1 < s.trapCount ∧ trapCountdown s = { s with trapCount := s.trapCount - 1 }) := by
  unfold trapCountdown
  by_cases h : s.curTask = .emulator ∧ 0 < s.trapCount
  · by_cases h1 : s.trapCount = 1
    · exact .inr (.inl ⟨h.1, h1, by simp [h.1, h1]⟩)
    · exact .inr (.inr ⟨h.1, by omega, by simp [h, h1]⟩)
  · exact .inl ⟨h, by simp [h]⟩

/-- Everything the task switch can do (49_cycle_click_tasks.md R384). -/
theorem switchTo_cases (t : Task) (s : State) :
    (t = s.curTask ∧ switchTo t s = s)
      ∨ (t ≠ s.curTask ∧ (switchTo t s).tc = wr s.tc s.curTask.id s.niax ∧ (switchTo t s).niax = rd s.tc t.id
          ∧ (switchTo t s).pendKind = .plain ∧ (switchTo t s).curTask = t) := by
  unfold switchTo
  by_cases h : t = s.curTask
  · exact .inl ⟨h, by simp [h]⟩
  · exact .inr ⟨h, by simp [h]⟩

/-- No click phase serves the I/O processor's control-store slot (R385). -/
theorem candidate_ne_iopControlStore (s : State) : candidate s ≠ .iopControlStore := by
  unfold candidate
  cases s.params.clickMap[s.click] <;> cases s.inputs.displayEnabled <;> decide

theorem nextTask_ne_iopControlStore (s : State) : nextTask s ≠ .iopControlStore := by
  unfold nextTask switchRule
  split_ifs
  · decide
  · decide
  · exact candidate_ne_iopControlStore s
  · decide

/-- A cycle before the third only moves the counter (R374). -/
theorem advanceCycle_of_ne_c3 {s : State} (h : s.cycle ≠ .c3) :
    advanceCycle s = { s with cycle := if s.cycle = .c1 then .c2 else .c3 } := by
  unfold advanceCycle
  cases hc : s.cycle with
  | c1 => simp
  | c2 => simp
  | c3 => exact absurd hc h

theorem advanceCycle_of_c3 {s : State} (h : s.cycle = .c3) : advanceCycle s = clickStep { s with cycle := .c1 } := by
  unfold advanceCycle
  simp [h]

/-! ### Instruction buffer -/

/-- The consume step lowers the pointer along Full, Word, Byte, Empty (46_ib.md R314). -/
theorem consume_count (b : IbData) : (b.consume).ptr.count.toNat = b.ptr.count.toNat - 1 := by
  cases b with
  | mk front pair ptr => cases ptr <;> rfl

/-- A load with room adds two bytes (R312). -/
theorem load_count (b : IbData) (x : Word) (h : b.ptr.hasRoom = true) :
    (b.load x).ptr.count.toNat = b.ptr.count.toNat + 2 := by
  cases b with
  | mk front pair ptr => cases ptr <;> first | rfl | simp [IbPtr.hasRoom] at h

/-! ### The step -/

/-- Everything a step can do: wait, or run the fetched instruction; the environment's turn follows. -/
theorem step_next {s t : State} (h : step s = .next t) :
    (s.waiting = true ∧ t = envPhase s)
      ∨ (s.waiting = false ∧ ∃ u, exec (decode (fetch s)) s = .next u ∧ t = envPhase u) := by
  unfold step at h
  cases hw : s.waiting with
  | true => exact .inl ⟨rfl, by simpa [hw] using h.symm⟩
  | false =>
    refine .inr ⟨rfl, ?_⟩
    simp only [hw, Bool.false_eq_true, if_false] at h
    cases he : exec (decode (fetch s)) s with
    | next u => exact ⟨u, rfl, by simpa [he] using h.symm⟩
    | fault e => simp [he] at h
    | refused e => simp [he] at h

/-- A property that every act keeps is kept by the environment's turn, if it does not read the script or the answers. -/
theorem envPhase_keeps {P : State → Prop} (hact : ∀ a s, P s → P (applyAct a s))
    (hin : ∀ s i r, P s → P { s with script := r, inputs := i }) {s : State} (h : P s) : P (envPhase s) := by
  have hacts : ∀ (l : List EnvAct) (u : State), P u → P (applyActs l u) := by
    intro l
    induction l with
    | nil => exact fun u hu => hu
    | cons a rest ih => exact fun u hu => ih _ (hact a u hu)
  unfold envPhase
  split
  · exact h
  · exact hacts _ _ (hin _ _ _ h)

end Sys2Proof.Machine
end

