-- ==== Sys2Proof/Laws/Next.lean ====
section
/-! SUPPORT. What a cycle leaves in the fields that the raises, the error trap and the task switch touch: the cause set, the
countdown, the program counters, the modifier, the merge rule, the saved modifiers and the current task; and the events it
emits, by kind. -/

namespace Sys2Proof.Machine

variable (m : Micro) (s : State)

/-! ### Causes and countdown -/

/-- A cause is signaled after a cycle if it was and is not cleared, or if the cycle raises it (60_exceptions.md R403, R252). -/
theorem cycleNext_errSet_has (c : Cause) :
    (cycleNext m s).errSet.has c = ((s.errSet.has c && !m.clrIntErr) || decide (c ∈ cycleRaises m s)) := by
  have hc : (commit m s).errSet.has c = (s.errSet.has c && !m.clrIntErr) := by
    rw [commit_errSet]
    cases m.clrIntErr <;> cases c <;> simp [ErrSet.empty, ErrSet.has]
  rw [cycleNext, advanceCycle_errSet, raiseAll_has, hc]

/-- The countdown after the raises of a cycle, before the click step (R403, R405). -/
theorem raiseAll_trapCount_eq (cs : List Cause) :
    (raiseAll cs s).trapCount = (if s.trapCount ≠ 0 then s.trapCount
      else match cs.head? with
        | some c => (s.params.trapDelay c s.cycle).count
        | none => 0) := by
  by_cases h : s.trapCount = 0
  · cases cs with
    | nil => simp [raiseAll, h]
    | cons c rest => simp [raiseAll_trapCount_of_none c rest s h, h]
  · simp [raiseAll_trapCount_of_pending cs s h, h]

theorem trapCountdown_trapCount :
    (trapCountdown s).trapCount = if s.curTask = .emulator then s.trapCount - 1 else s.trapCount := by
  rcases trapCountdown_cases s with ⟨h, e⟩ | ⟨h, h1, e⟩ | ⟨h, h1, e⟩
  · rw [e]
    split_ifs with hc
    · have : ¬ 0 < s.trapCount := fun hp => h ⟨hc, hp⟩
      omega
    · rfl
  · rw [e, if_pos h, h1]; rfl
  · rw [e, if_pos h]

/-! ### Before the click boundary -/

/-- Before cycle 3 the cycle lands the commit and the raises, and the counter moves (49_cycle_click_tasks.md R374). -/
theorem cycleNext_of_ne_c3 (h : s.cycle ≠ .c3) :
    cycleNext m s
      = { raiseAll (cycleRaises m s) (commit m s) with cycle := if s.cycle = .c1 then .c2 else .c3 } := by
  rw [cycleNext, advanceCycle_of_ne_c3 (by simpa using h)]
  simp

/-- In cycle 3 the click step follows. -/
theorem cycleNext_of_c3 (h : s.cycle = .c3) :
    cycleNext m s = clickStep { raiseAll (cycleRaises m s) (commit m s) with cycle := .c1 } := by
  rw [cycleNext, advanceCycle_of_c3 (by simpa using h)]

/-! ### The trap and the program counter -/

theorem trapCountdown_tpc :
    (trapCountdown s).tpc = if s.curTask = .emulator ∧ s.trapCount = 1 then wr s.tpc 0 0 else s.tpc := by
  unfold trapCountdown takeTrap
  by_cases h : s.curTask = .emulator <;> by_cases h1 : s.trapCount = 1 <;>
    by_cases h0 : 0 < s.trapCount <;> simp [h, h1, h0, Task.id]

theorem trapCountdown_niax :
    (trapCountdown s).niax = if s.curTask = .emulator ∧ s.trapCount = 1 then 0 else s.niax := by
  unfold trapCountdown takeTrap
  by_cases h : s.curTask = .emulator <;> by_cases h1 : s.trapCount = 1 <;>
    by_cases h0 : 0 < s.trapCount <;> simp [h, h1, h0]

theorem trapCountdown_pendKind :
    (trapCountdown s).pendKind = if s.curTask = .emulator ∧ s.trapCount = 1 then .plain else s.pendKind := by
  unfold trapCountdown takeTrap
  by_cases h : s.curTask = .emulator <;> by_cases h1 : s.trapCount = 1 <;>
    by_cases h0 : 0 < s.trapCount <;> simp [h, h1, h0]

/-- The countdown a cycle's click step starts from. -/
def raisedCount : Nat := (raiseAll (cycleRaises m s) (commit m s)).trapCount

theorem raisedCount_eq :
    raisedCount m s = (if s.trapCount ≠ 0 then s.trapCount
      else match (cycleRaises m s).head? with
        | some c => (s.params.trapDelay c s.cycle).count
        | none => 0) := by
  rw [raisedCount, raiseAll_trapCount_eq]
  simp only [commit_trapCount, commit_params, commit_cycle]
  rfl

theorem cycleNext_trapCount :
    (cycleNext m s).trapCount = if s.curTask = .emulator ∧ s.cycle = .c3 then raisedCount m s - 1 else raisedCount m s := by
  by_cases h : s.cycle = .c3
  · rw [cycleNext_of_c3 m s h]
    simp [clickStep, scheduleNext, trapCountdown_trapCount, clearLatches, raisedCount, h]
  · rw [cycleNext_of_ne_c3 m s h]
    simp [raisedCount, h]

/-- The error trap fires in this cycle's click step (60_exceptions.md R408). -/
def trapFires : Prop := s.curTask = .emulator ∧ s.cycle = .c3 ∧ raisedCount m s = 1

theorem cycleNext_tpc_of_fires (h : trapFires m s) : (cycleNext m s).tpc = wr (wr s.tpc 0 (nextAddr m s)) 0 0 := by
  obtain ⟨h1, h2, h3⟩ := h
  rw [cycleNext_of_c3 m s h2]
  unfold raisedCount at h3
  simp [clickStep, trapCountdown_tpc, clearLatches, h1, h3, Task.id]

theorem cycleNext_tpc_of_not_fires (h : ¬ trapFires m s) : (cycleNext m s).tpc = wr s.tpc s.curTask.id (nextAddr m s) := by
  by_cases h2 : s.cycle = .c3
  · rw [cycleNext_of_c3 m s h2]
    have : ¬ (s.curTask = .emulator ∧ (raiseAll (cycleRaises m s) (commit m s)).trapCount = 1) :=
      fun e => h ⟨e.1, h2, e.2⟩
    simp [clickStep, trapCountdown_tpc, clearLatches, this]
  · rw [cycleNext_of_ne_c3 m s h2]
    simp

/-- A task other than the current one keeps its program counter. -/
theorem cycleNext_tpc_other (k : Task) (h : k ≠ s.curTask) : rd (cycleNext m s).tpc k.id = rd s.tpc k.id := by
  have hne : k.id ≠ s.curTask.id := fun e => h (Task.id_injective _ _ e)
  by_cases hf : trapFires m s
  · rw [cycleNext_tpc_of_fires m s hf]
    rw [hf.1] at hne
    simp only [Task.id] at hne ⊢
    rw [rd_wr_of_ne _ _ hne, rd_wr_of_ne _ _ hne]
  · rw [cycleNext_tpc_of_not_fires m s hf, rd_wr_of_ne _ _ hne]

/-! ### The modifier, the merge rule, the current task -/

/-- The state the task choice of a click step starts from. -/
def preSwitch : State := advanceClick (trapCountdown (clearLatches { raiseAll (cycleRaises m s) (commit m s) with cycle := .c1 }))

theorem cycleNext_eq_switch (h : s.cycle = .c3) :
    cycleNext m s = switchTo (nextTask (preSwitch m s)) { preSwitch m s with kernelExit := false } := by
  rw [cycleNext_of_c3 m s h]; rfl

@[simp] theorem preSwitch_curTask : (preSwitch m s).curTask = s.curTask := by simp [preSwitch]
@[simp] theorem preSwitch_tc : (preSwitch m s).tc = s.tc := by simp [preSwitch]
@[simp] theorem preSwitch_wake : (preSwitch m s).wake = nextWake m s := by simp [preSwitch]
@[simp] theorem preSwitch_click : (preSwitch m s).click = s.click + 1 := by simp [preSwitch]
@[simp] theorem preSwitch_params : (preSwitch m s).params = s.params := by simp [preSwitch]
@[simp] theorem preSwitch_inputs : (preSwitch m s).inputs = s.inputs := by simp [preSwitch]
@[simp] theorem preSwitch_kernelExit : (preSwitch m s).kernelExit = (s.kernelExit || exitNow m s) := by simp [preSwitch]

theorem preSwitch_niax : (preSwitch m s).niax
    = if s.curTask = .emulator ∧ raisedCount m s = 1 then 0 else niaxOut m s := by
  simp [preSwitch, trapCountdown_niax, raisedCount, clearLatches]
  rfl

theorem preSwitch_pendKind : (preSwitch m s).pendKind
    = if s.curTask = .emulator ∧ raisedCount m s = 1 then .plain else pendKindOut m s := by
  simp [preSwitch, trapCountdown_pendKind, raisedCount, clearLatches]
  rfl

theorem nextTask_congr {u v : State} (h1 : u.curTask = v.curTask) (h2 : u.kernelExit = v.kernelExit)
    (h3 : u.wake = v.wake) (h4 : u.click = v.click) (h5 : u.params = v.params) (h6 : u.inputs = v.inputs) :
    nextTask u = nextTask v := by
  have hc : candidate u = candidate v := by simp only [candidate, h4, h5, h6]
  have hs : switchRule u = switchRule v := by simp only [switchRule, hc, h3]
  simp only [nextTask, kernelRetained, h1, h2, hs]; rfl

/-- Everything a click boundary leaves of the sequencing state (49_cycle_click_tasks.md R380 to R384). -/
theorem cycleNext_boundary (h : s.cycle = .c3) :
    (cycleNext m s).curTask = nextTask (preSwitch m s)
      ∧ (((cycleNext m s).curTask = s.curTask ∧ (cycleNext m s).tc = s.tc ∧ (cycleNext m s).niax = (preSwitch m s).niax
            ∧ (cycleNext m s).pendKind = (preSwitch m s).pendKind)
          ∨ ((cycleNext m s).curTask ≠ s.curTask ∧ (cycleNext m s).tc = wr s.tc s.curTask.id (preSwitch m s).niax
            ∧ (cycleNext m s).niax = rd s.tc (cycleNext m s).curTask.id ∧ (cycleNext m s).pendKind = .plain)) := by
  rw [cycleNext_eq_switch m s h]
  refine ⟨by simp, ?_⟩
  generalize nextTask (preSwitch m s) = k
  obtain ⟨u, hu, h1, h2, h3, h4⟩ : ∃ u : State, u = { preSwitch m s with kernelExit := false } ∧ u.curTask = s.curTask
      ∧ u.tc = s.tc ∧ u.niax = (preSwitch m s).niax ∧ u.pendKind = (preSwitch m s).pendKind :=
    ⟨_, rfl, by simp, by simp, rfl, rfl⟩
  rw [← hu, ← h1, ← h2, ← h3, ← h4]
  rcases switchTo_cases k u with ⟨e, q⟩ | ⟨e, q1, q2, q3, q4⟩
  · exact .inl ⟨by rw [q], by rw [q], by rw [q], by rw [q]⟩
  · exact .inr ⟨by rw [q4]; exact e, q1, by rw [q4]; exact q2, q3⟩

/-- The modifier that the current task uses next. -/
theorem modifierOf_cycleNext :
    modifierOf (cycleNext m s) s.curTask
      = if s.curTask = .emulator ∧ s.cycle = .c3 ∧ raisedCount m s = 1 then 0 else niaxOut m s := by
  by_cases h : s.cycle = .c3
  · obtain ⟨_, ⟨h1, h2, h3, h4⟩ | ⟨h1, h2, h3, h4⟩⟩ := cycleNext_boundary m s h
    · simp [modifierOf, h1, h3, preSwitch_niax, h]
    · simp [modifierOf, h1, h2, preSwitch_niax, h]
  · rw [cycleNext_of_ne_c3 m s h]
    simp [modifierOf, h]

/-- Where no trap fires and the task is kept, the modifier and the merge rule of the cycle are the next instruction's, across a
click boundary too (49_cycle_click_tasks.md R384). -/
theorem cycleNext_carries_over (hk : (cycleNext m s).curTask = s.curTask) (hn : ¬ trapFires m s) :
    (cycleNext m s).niax = niaxOut m s ∧ (cycleNext m s).pendKind = pendKindOut m s := by
  by_cases h : s.cycle = .c3
  · obtain ⟨_, ⟨h1, h2, h3, h4⟩ | ⟨h1, _⟩⟩ := cycleNext_boundary m s h
    · have : ¬ (s.curTask = .emulator ∧ raisedCount m s = 1) := fun e => hn ⟨e.1, h, e.2⟩
      rw [h3, h4, preSwitch_niax, preSwitch_pendKind, if_neg this, if_neg this]
      exact ⟨rfl, rfl⟩
    · exact absurd hk h1
  · rw [cycleNext_of_ne_c3 m s h]
    simp

/-- Without a dispatch request the next merge is plain, whatever the click boundary does. -/
theorem cycleNext_pendKind_plain (h : m.ibDispRequest = false) : (cycleNext m s).pendKind = .plain := by
  have hp : pendKindOut m s = .plain := by simp [pendKindOut, dispatchPerformed, refillTaken, h]
  by_cases hc : s.cycle = .c3
  · obtain ⟨_, ⟨_, _, _, h4⟩ | ⟨_, _, _, h4⟩⟩ := cycleNext_boundary m s hc
    · rw [h4, preSwitch_pendKind, hp]
      simp
    · exact h4
  · rw [cycleNext_of_ne_c3 m s hc]
    simp [hp]

/-! ### Events by kind -/

theorem strobeEvents_kind : ∀ e ∈ strobeEvents m, e.isStrobe = true ∧ e.isBus = false ∧ e.isDeviceWrite = false
    ∧ e.isRefresh = false ∧ e.isClear = false := by
  unfold strobeEvents
  split <;> simp [Event.isStrobe, Event.isBus, Event.isDeviceWrite, Event.isRefresh, Event.isClear]

theorem memEvents_kind : ∀ e ∈ memEvents m s, e.isStrobe = false ∧ e.isBus = true ∧ e.isDeviceWrite = false
    ∧ e.isRefresh = false ∧ e.isClear = false := by
  unfold memEvents
  cases m.mem <;> cases s.cycle <;> cases (s.pageCrossLatch || s.ibEmptyLatch) <;>
    simp [Event.isStrobe, Event.isBus, Event.isDeviceWrite, Event.isRefresh, Event.isClear]

theorem yEvents_kind : ∀ e ∈ yEvents m s, e.isStrobe = false ∧ e.isBus = false := by
  unfold yEvents
  split <;> simp [Event.isStrobe, Event.isBus]

theorem zEvents_kind : ∀ e ∈ zEvents m, e.isStrobe = false ∧ e.isBus = false ∧ e.isDeviceWrite = false
    ∧ e.isRefresh = true ∧ e.isClear = false := by
  unfold zEvents
  split <;> simp [Event.isStrobe, Event.isBus, Event.isDeviceWrite, Event.isRefresh, Event.isClear]

theorem filter_all {p : Event → Bool} {l : List Event} (h : ∀ e ∈ l, p e = true) : l.filter p = l :=
  List.filter_eq_self.mpr h

theorem filter_none {p : Event → Bool} {l : List Event} (h : ∀ e ∈ l, p e = false) : l.filter p = [] :=
  List.filter_eq_nil_iff.mpr (fun e he => by simp [h e he])

/-- The bus events of a cycle are the memory-staging ones. -/
theorem cycleEvents_isBus : (cycleEvents m s).filter Event.isBus = memEvents m s := by
  simp only [cycleEvents, List.filter_append]
  rw [filter_none (fun e h => (strobeEvents_kind m e h).2.1), filter_all (fun e h => (memEvents_kind m s e h).2.1),
    filter_none (fun e h => (yEvents_kind m s e h).2), filter_none (fun e h => (zEvents_kind m e h).2.1)]
  simp

/-- The strobe events of a cycle are those of the Z plane's input code. -/
theorem cycleEvents_isStrobe : (cycleEvents m s).filter Event.isStrobe = strobeEvents m := by
  simp only [cycleEvents, List.filter_append]
  rw [filter_all (fun e h => (strobeEvents_kind m e h).1), filter_none (fun e h => (memEvents_kind m s e h).1),
    filter_none (fun e h => (yEvents_kind m s e h).1), filter_none (fun e h => (zEvents_kind m e h).1)]
  simp

/-- The device writes of a cycle are those of the Y plane. -/
theorem cycleEvents_isDeviceWrite :
    (cycleEvents m s).filter Event.isDeviceWrite = (yEvents m s).filter Event.isDeviceWrite := by
  simp only [cycleEvents, List.filter_append]
  rw [filter_none (fun e h => (strobeEvents_kind m e h).2.2.1), filter_none (fun e h => (memEvents_kind m s e h).2.2.1),
    filter_none (fun e h => (zEvents_kind m e h).2.2.1)]
  simp

/-- The request clears of a cycle are those of the Y plane. -/
theorem cycleEvents_isClear : (cycleEvents m s).filter Event.isClear = (yEvents m s).filter Event.isClear := by
  simp only [cycleEvents, List.filter_append]
  rw [filter_none (fun e h => (strobeEvents_kind m e h).2.2.2.2), filter_none (fun e h => (memEvents_kind m s e h).2.2.2.2),
    filter_none (fun e h => (zEvents_kind m e h).2.2.2.2)]
  simp

/-- The refresh strobes of a cycle are those of the Y and Z planes. -/
theorem cycleEvents_isRefresh :
    (cycleEvents m s).filter Event.isRefresh = (yEvents m s).filter Event.isRefresh ++ zEvents m := by
  simp only [cycleEvents, List.filter_append]
  rw [filter_none (fun e h => (strobeEvents_kind m e h).2.2.2.1), filter_none (fun e h => (memEvents_kind m s e h).2.2.2.1),
    filter_all (fun e h => (zEvents_kind m e h).2.2.2.1)]
  simp

end Sys2Proof.Machine
end

