-- ==== Sys2Proof/Laws/PerInstr.lean ====
section
/-! SUPPORT. The family of statements EncodeSelectsRow, one lemma per constructor: the word of an instruction matches the mask, the
match value and the exclusion of its own row of spec/opcode_table.json. One lemma per kind of row carries the proof. -/

namespace Sys2Proof.Laws.EncodeSelectsRow

open Sys2Proof

/-- The word of `i` selects the row of `i`. -/
def Statement (i : Instr) : Prop := i.pattern.selects (encode i) = true

/-! ### One lemma per kind of row -/

theorem selects_one (f : FixedField) (w : MWord) (h : f.holds w = true) :
    RowPattern.selects ⟨[f], none⟩ w = true := by
  simp [RowPattern.selects, h]

theorem selects_two (f g : FixedField) (w : MWord) (h : f.holds w = true) (h' : g.holds w = true) :
    RowPattern.selects ⟨[f, g], none⟩ w = true := by
  simp [RowPattern.selects, h, h']

theorem selects_excluding (fs : List FixedField) (x : FixedField) (w : MWord) (h : ∀ f ∈ fs, f.holds w = true)
    (hx : x.holds w = false) : RowPattern.selects ⟨fs, some x⟩ w = true := by
  simpa [RowPattern.selects, List.all_eq_true, hx] using h

theorem holds_of_extract {lo len : Nat} {w : MWord} {v : BitVec len} (h : w.extractLsb' lo len = v) :
    (FixedField.mk lo len v.toNat).holds w = true := by
  rw [FixedField.holds_mk, h]
  exact decide_eq_true rfl

theorem src_row (m : Micro) (p : SrcPair) :
    RowPattern.selects ⟨[⟨37, 3, p.code.toNat⟩], none⟩ (encodeMicro (m.withSrc p)) = true :=
  selects_one _ _ (holds_of_extract (encodeMicro_aS (m.withSrc p)))

theorem fn_row (m : Micro) (f : AluFn) :
    RowPattern.selects ⟨[⟨34, 3, f.code.toNat⟩], none⟩ (encodeMicro (m.withFn f)) = true :=
  selects_one _ _ (holds_of_extract (encodeMicro_aF (m.withFn f)))

theorem withPlainDest_x (m : Micro) (d : WbSel) : (m.withPlainDest d).x.isShiftOrCycle = false := by
  unfold Micro.withPlainDest
  dsimp only
  split
  · rfl
  · rename_i hx
    exact Bool.eq_false_iff.mpr hx

theorem plainDest_row (m : Micro) (d : WbSel) :
    RowPattern.selects ⟨[⟨32, 2, d.code.toNat⟩], some ⟨17, 3, 5⟩⟩ (encodeMicro (m.withPlainDest d)) = true := by
  refine selects_excluding _ _ _ ?_ ?_
  · exact List.forall_mem_singleton.mpr (holds_of_extract (encodeMicro_aD (m.withPlainDest d)))
  · rw [FixedField.holds_mk, encodeMicro_fXHigh, ← XOp.isShiftOrCycle_code]
    exact withPlainDest_x m d

theorem shiftDest_row (m : Micro) (d : WbSel) (isCycle : Bool) :
    RowPattern.selects ⟨[⟨32, 2, d.code.toNat⟩, ⟨17, 3, 5⟩], none⟩ (encodeMicro (m.withShiftDest d isCycle)) = true := by
  refine selects_two _ _ _ (holds_of_extract (encodeMicro_aD (m.withShiftDest d isCycle))) ?_
  rw [FixedField.holds_mk, encodeMicro_fXHigh, ← XOp.isShiftOrCycle_code]
  cases isCycle <;> rfl

theorem ep_row (m : Micro) : RowPattern.selects ⟨[⟨31, 1, 1⟩], none⟩ (encodeMicro (m.withEp true)) = true :=
  selects_one _ _ (holds_of_extract (v := 1) (encodeMicro_ep (m.withEp true)))

theorem cin_row (m : Micro) (b : Bool) :
    RowPattern.selects ⟨[⟨30, 1, (BitVec.ofBool b).toNat⟩], none⟩ (encodeMicro (m.withCin b)) = true :=
  selects_one _ _ (holds_of_extract (encodeMicro_cin (m.withCin b)))

theorem su_row (m : Micro) (p : SrcPair) :
    RowPattern.selects ⟨[⟨29, 1, 1⟩, ⟨37, 3, p.code.toNat⟩], none⟩ (encodeMicro (m.withSu p)) = true :=
  selects_two _ _ _ (holds_of_extract (v := 1) (encodeMicro_enSU (m.withSu p)))
    (holds_of_extract (encodeMicro_aS (m.withSu p)))

theorem mem_row (m : Micro) : RowPattern.selects ⟨[⟨28, 1, 1⟩], none⟩ (encodeMicro m.withMem) = true :=
  selects_one _ _ (holds_of_extract (v := 1) (encodeMicro_mem m.withMem))

theorem x_row (m : Micro) (x : XOp) :
    RowPattern.selects ⟨[⟨16, 4, x.code.toNat⟩], none⟩ (encodeMicro (m.withX x)) = true :=
  selects_one _ _ (holds_of_extract (encodeMicro_fX (m.withX x)))

theorem y_row (m : Micro) (y : YOp) :
    RowPattern.selects ⟨[⟨20, 4, (m.withY y).planes.fY.toNat⟩, ⟨26, 2, (m.withY y).planes.yMode.toNat⟩], none⟩
      (encodeMicro (m.withY y)) = true :=
  selects_two _ _ _ (holds_of_extract (encodeMicro_fY (m.withY y))) (holds_of_extract (encodeMicro_yMode (m.withY y)))

theorem byte_row (m : Micro) (imm : BitVec 8) :
    RowPattern.selects ⟨[⟨26, 2, 3⟩], none⟩ (encodeMicro (m.withByte imm)) = true :=
  selects_one _ _ (holds_of_extract (v := 3) (encodeMicro_yMode (m.withByte imm)))

/-- A Z-plane row: its exclusion, byte mode, never applies. -/
theorem z_row (m : Micro) (z : ZOp) (fs : List FixedField)
    (h : ∀ f ∈ fs, f.holds (encodeMicro (m.withZ z)) = true) :
    RowPattern.selects ⟨fs, some ⟨26, 2, 3⟩⟩ (encodeMicro (m.withZ z)) = true := by
  refine selects_excluding _ _ _ h ?_
  rw [FixedField.holds_mk, encodeMicro_yMode]
  exact decide_eq_false (Planes.yMode_yz_ne _ _)

theorem zCode_row (m : Micro) (z : ZOp) :
    RowPattern.selects ⟨[⟨12, 4, (m.withZ z).planes.fZ.toNat⟩, ⟨24, 2, (m.withZ z).planes.zMode.toNat⟩],
      some ⟨26, 2, 3⟩⟩ (encodeMicro (m.withZ z)) = true :=
  z_row m z _ (by
    simpa using ⟨holds_of_extract (encodeMicro_fZ (m.withZ z)), holds_of_extract (encodeMicro_zMode (m.withZ z))⟩)

theorem zMode_row (m : Micro) (z : ZOp) :
    RowPattern.selects ⟨[⟨24, 2, (m.withZ z).planes.zMode.toNat⟩], some ⟨26, 2, 3⟩⟩ (encodeMicro (m.withZ z)) = true :=
  z_row m z _ (by simpa using holds_of_extract (encodeMicro_zMode (m.withZ z)))

theorem goto_row (w : MWord) : RowPattern.selects ⟨[], none⟩ w = true := rfl

/-! ### The rows -/

theorem srcAQ (m : Micro) : Statement (.srcAQ m) := src_row m .aq

theorem srcAB (m : Micro) : Statement (.srcAB m) := src_row m .ab

theorem src0Q (m : Micro) : Statement (.src0Q m) := src_row m .zq

theorem src0B (m : Micro) : Statement (.src0B m) := src_row m .zb

theorem src0A (m : Micro) : Statement (.src0A m) := src_row m .za

theorem srcDA (m : Micro) : Statement (.srcDA m) := src_row m .da

theorem srcDQ (m : Micro) : Statement (.srcDQ m) := src_row m .dq

theorem srcD0 (m : Micro) : Statement (.srcD0 m) := src_row m .dz

theorem fnADD (m : Micro) : Statement (.fnADD m) := fn_row m .add

theorem fnSUBR (m : Micro) : Statement (.fnSUBR m) := fn_row m .subr

theorem fnSUBS (m : Micro) : Statement (.fnSUBS m) := fn_row m .subs

theorem fnOR (m : Micro) : Statement (.fnOR m) := fn_row m .or

theorem fnAND (m : Micro) : Statement (.fnAND m) := fn_row m .and

theorem fnNOTRS (m : Micro) : Statement (.fnNOTRS m) := fn_row m .notrs

theorem fnXOR (m : Micro) : Statement (.fnXOR m) := fn_row m .xor

theorem fnXNOR (m : Micro) : Statement (.fnXNOR m) := fn_row m .xnor

theorem dest0Q (m : Micro) : Statement (.dest0Q m) := plainDest_row m .q

theorem dest1NONE (m : Micro) : Statement (.dest1NONE m) := plainDest_row m .none

theorem dest2BA (m : Micro) : Statement (.dest2BA m) := plainDest_row m .ba

theorem dest3B (m : Micro) : Statement (.dest3B m) := plainDest_row m .b

theorem dest4DoubleRight (isCycle : Bool) (m : Micro) : Statement (.dest4DoubleRight isCycle m) := shiftDest_row m .q isCycle

theorem dest5SingleRight (isCycle : Bool) (m : Micro) : Statement (.dest5SingleRight isCycle m) := shiftDest_row m .none isCycle

theorem dest6DoubleLeft (isCycle : Bool) (m : Micro) : Statement (.dest6DoubleLeft isCycle m) := shiftDest_row m .ba isCycle

theorem dest7SingleLeft (isCycle : Bool) (m : Micro) : Statement (.dest7SingleLeft isCycle m) := shiftDest_row m .b isCycle

theorem ep (m : Micro) : Statement (.ep m) := ep_row m

theorem cin1 (m : Micro) : Statement (.cin1 m) := cin_row m true

theorem cin0 (m : Micro) : Statement (.cin0 m) := cin_row m false

theorem suWriteAQ (m : Micro) : Statement (.suWriteAQ m) := su_row m .aq

theorem suWriteAB (m : Micro) : Statement (.suWriteAB m) := su_row m .ab

theorem suWrite0Q (m : Micro) : Statement (.suWrite0Q m) := su_row m .zq

theorem suWrite0B (m : Micro) : Statement (.suWrite0B m) := su_row m .zb

theorem suWrite0A (m : Micro) : Statement (.suWrite0A m) := su_row m .za

theorem suReadDA (m : Micro) : Statement (.suReadDA m) := su_row m .da

theorem suReadDQ (m : Micro) : Statement (.suReadDQ m) := su_row m .dq

theorem suReadD0 (m : Micro) : Statement (.suReadD0 m) := su_row m .dz

theorem memCycle1 (m : Micro) : Statement (.memCycle1 m) := mem_row m

theorem memCycle2 (m : Micro) : Statement (.memCycle2 m) := mem_row m

theorem memCycle3 (m : Micro) : Statement (.memCycle3 m) := mem_row m

theorem xLink0 (m : Micro) : Statement (.xLink0 m) := x_row m (.link 0)

theorem xLink1 (m : Micro) : Statement (.xLink1 m) := x_row m (.link 1)

theorem xLink2 (m : Micro) : Statement (.xLink2 m) := x_row m (.link 2)

theorem xLink3 (m : Micro) : Statement (.xLink3 m) := x_row m (.link 3)

theorem xLink4 (m : Micro) : Statement (.xLink4 m) := x_row m (.link 4)

theorem xLink5 (m : Micro) : Statement (.xLink5 m) := x_row m (.link 5)

theorem xLink6 (m : Micro) : Statement (.xLink6 m) := x_row m (.link 6)

theorem xLink7 (m : Micro) : Statement (.xLink7 m) := x_row m (.link 7)

theorem xNoop (m : Micro) : Statement (.xNoop m) := x_row m .noop

theorem xRHLoad (m : Micro) : Statement (.xRHLoad m) := x_row m .rhLoad

theorem xShift (m : Micro) : Statement (.xShift m) := x_row m .shift

theorem xCycle (m : Micro) : Statement (.xCycle m) := x_row m .cycle

theorem xCinPc16 (m : Micro) : Statement (.xCinPc16 m) := x_row m .cinPc16

theorem xReserved (m : Micro) : Statement (.xReserved m) := x_row m .reserved

theorem xPop (m : Micro) : Statement (.xPop m) := x_row m .pop

theorem xPush (m : Micro) : Statement (.xPush m) := x_row m .push

theorem yExitKernel (m : Micro) : Statement (.yExitKernel m) := y_row m (.norm .exitKernel)

theorem yEnterKernel (m : Micro) : Statement (.yEnterKernel m) := y_row m (.norm .enterKernel)

theorem yClrIntErr (m : Micro) : Statement (.yClrIntErr m) := y_row m (.norm .clrIntErr)

theorem yIBDisp (m : Micro) : Statement (.yIBDisp m) := y_row m (.norm .ibDisp)

theorem yMesaIntRq (m : Micro) : Statement (.yMesaIntRq m) := y_row m (.norm .mesaIntRq)

theorem yStackPLoad (m : Micro) : Statement (.yStackPLoad m) := y_row m (.norm .stackPLoad)

theorem yIBLoad (m : Micro) : Statement (.yIBLoad m) := y_row m (.norm .ibLoad)

theorem yReserved (m : Micro) : Statement (.yReserved m) := y_row m (.norm .reserved)

theorem yNoop (m : Micro) : Statement (.yNoop m) := y_row m (.norm .noop)

theorem yMap (m : Micro) : Statement (.yMap m) := y_row m (.norm .map)

theorem yRefresh (m : Micro) : Statement (.yRefresh m) := y_row m (.norm .refresh)

theorem yPush (m : Micro) : Statement (.yPush m) := y_row m (.norm .push)

theorem yClrDPRq (m : Micro) : Statement (.yClrDPRq m) := y_row m (.norm .clrDPRq)

theorem yClrIOPRq (m : Micro) : Statement (.yClrIOPRq m) := y_row m (.norm .clrIOPRq)

theorem yClrKFlags (m : Micro) : Statement (.yClrKFlags m) := y_row m (.norm .clrKFlags)

theorem yPop (m : Micro) : Statement (.yPop m) := y_row m (.norm .pop)

theorem yNegBr (m : Micro) : Statement (.yNegBr m) := y_row m (.branch .negBr)

theorem yZeroBr (m : Micro) : Statement (.yZeroBr m) := y_row m (.branch .zeroBr)

theorem yNZeroBr (m : Micro) : Statement (.yNZeroBr m) := y_row m (.branch .nZeroBr)

theorem yMesaIntBr (m : Micro) : Statement (.yMesaIntBr m) := y_row m (.branch .mesaIntBr)

theorem yPgCarryBr (m : Micro) : Statement (.yPgCarryBr m) := y_row m (.branch .pgCarryBr)

theorem yCarryBr (m : Micro) : Statement (.yCarryBr m) := y_row m (.branch .carryBr)

theorem yXRefBr (m : Micro) : Statement (.yXRefBr m) := y_row m (.branch .xRefBr)

theorem yNibCarryBr (m : Micro) : Statement (.yNibCarryBr m) := y_row m (.branch .nibCarryBr)

theorem yXDisp (m : Micro) : Statement (.yXDisp m) := y_row m (.branch .xDisp)

theorem yYDisp (m : Micro) : Statement (.yYDisp m) := y_row m (.branch .yDisp)

theorem yXC2npcDisp (m : Micro) : Statement (.yXC2npcDisp m) := y_row m (.branch .xc2npcDisp)

theorem yYIODisp (m : Micro) : Statement (.yYIODisp m) := y_row m (.branch .yIODisp)

theorem yXwdDisp (m : Micro) : Statement (.yXwdDisp m) := y_row m (.branch .xwdDisp)

theorem yXHDisp (m : Micro) : Statement (.yXHDisp m) := y_row m (.branch .xhDisp)

theorem yXLDisp (m : Micro) : Statement (.yXLDisp m) := y_row m (.branch .xlDisp)

theorem yPgCrOvDisp (m : Micro) : Statement (.yPgCrOvDisp m) := y_row m (.branch .pgCrOvDisp)

theorem yIOPOData (m : Micro) : Statement (.yIOPOData m) := y_row m (.out 0)

theorem yIOPCtl (m : Micro) : Statement (.yIOPCtl m) := y_row m (.out 1)

theorem yKOData (m : Micro) : Statement (.yKOData m) := y_row m (.out 2)

theorem yKCtl (m : Micro) : Statement (.yKCtl m) := y_row m (.out 3)

theorem yEOData (m : Micro) : Statement (.yEOData m) := y_row m (.out 4)

theorem yEICtl (m : Micro) : Statement (.yEICtl m) := y_row m (.out 5)

theorem yDCtlFifo (m : Micro) : Statement (.yDCtlFifo m) := y_row m (.out 6)

theorem yDCtl (m : Micro) : Statement (.yDCtl m) := y_row m (.out 7)

theorem yDBorder (m : Micro) : Statement (.yDBorder m) := y_row m (.out 8)

theorem yPCtl (m : Micro) : Statement (.yPCtl m) := y_row m (.out 9)

theorem yMCtl (m : Micro) : Statement (.yMCtl m) := y_row m (.out 10)

theorem yOut11 (m : Micro) : Statement (.yOut11 m) := y_row m (.out 11)

theorem yEOCtl (m : Micro) : Statement (.yEOCtl m) := y_row m (.out 12)

theorem yKCmd (m : Micro) : Statement (.yKCmd m) := y_row m (.out 13)

theorem yOut14 (m : Micro) : Statement (.yOut14 m) := y_row m (.out 14)

theorem yPOData (m : Micro) : Statement (.yPOData m) := y_row m (.out 15)

theorem byteLit (imm : BitVec 8) (m : Micro) : Statement (.byteLit imm m) := byte_row m imm

theorem zRefresh (m : Micro) : Statement (.zRefresh m) := zCode_row m (.norm .refresh)

theorem zReserved1 (m : Micro) : Statement (.zReserved1 m) := zCode_row m (.norm .reserved1)

theorem zReserved2 (m : Micro) : Statement (.zReserved2 m) := zCode_row m (.norm .reserved2)

theorem zCinPc16 (m : Micro) : Statement (.zCinPc16 m) := zCode_row m (.norm .cinPc16)

theorem zReserved4 (m : Micro) : Statement (.zReserved4 m) := zCode_row m (.norm .reserved4)

theorem zPop (m : Micro) : Statement (.zPop m) := zCode_row m (.norm .pop)

theorem zPush (m : Micro) : Statement (.zPush m) := zCode_row m (.norm .push)

theorem zAlwaysIBDisp (m : Micro) : Statement (.zAlwaysIBDisp m) := zCode_row m (.norm .alwaysIBDisp)

theorem zNoop (m : Micro) : Statement (.zNoop m) := zCode_row m (.norm .noop)

theorem zReserved9 (m : Micro) : Statement (.zReserved9 m) := zCode_row m (.norm .reserved9)

theorem zReservedA (m : Micro) : Statement (.zReservedA m) := zCode_row m (.norm .reservedA)

theorem zReservedB (m : Micro) : Statement (.zReservedB m) := zCode_row m (.norm .reservedB)

theorem zLRot0 (m : Micro) : Statement (.zLRot0 m) := zCode_row m (.norm .lrot0)

theorem zLRot12 (m : Micro) : Statement (.zLRot12 m) := zCode_row m (.norm .lrot12)

theorem zLRot8 (m : Micro) : Statement (.zLRot8 m) := zCode_row m (.norm .lrot8)

theorem zLRot4 (m : Micro) : Statement (.zLRot4 m) := zCode_row m (.norm .lrot4)

theorem nibLit (imm : BitVec 4) (m : Micro) : Statement (.nibLit imm m) := zMode_row m (.nibble imm)

theorem uaddr (lo : BitVec 4) (m : Micro) : Statement (.uaddr lo m) := zMode_row m (.uaddr lo)

theorem zEIData (m : Micro) : Statement (.zEIData m) := zCode_row m (.input .eiData)

theorem zEStatus (m : Micro) : Statement (.zEStatus m) := zCode_row m (.input .eStatus)

theorem zKIData (m : Micro) : Statement (.zKIData m) := zCode_row m (.input .kiData)

theorem zKStatus (m : Micro) : Statement (.zKStatus m) := zCode_row m (.input .kStatus)

theorem zKStrobe (m : Micro) : Statement (.zKStrobe m) := zCode_row m (.input .kStrobe)

theorem zMStatus (m : Micro) : Statement (.zMStatus m) := zCode_row m (.input .mStatus)

theorem zKTest (m : Micro) : Statement (.zKTest m) := zCode_row m (.input .kTest)

theorem zEStrobe (m : Micro) : Statement (.zEStrobe m) := zCode_row m (.input .eStrobe)

theorem zIOPIData (m : Micro) : Statement (.zIOPIData m) := zCode_row m (.input .iopIData)

theorem zIOPStatus (m : Micro) : Statement (.zIOPStatus m) := zCode_row m (.input .iopStatus)

theorem zErrIBStk (m : Micro) : Statement (.zErrIBStk m) := zCode_row m (.input .errIBStk)

theorem zRH (m : Micro) : Statement (.zRH m) := zCode_row m (.input .rh)

theorem zIbNA (m : Micro) : Statement (.zIbNA m) := zCode_row m (.input .ibNA)

theorem zIb (m : Micro) : Statement (.zIb m) := zCode_row m (.input .ib)

theorem zIbLow (m : Micro) : Statement (.zIbLow m) := zCode_row m (.input .ibLow)

theorem zIbHigh (m : Micro) : Statement (.zIbHigh m) := zCode_row m (.input .ibHigh)

theorem gotoInia (inia : BitVec 12) (m : Micro) : Statement (.gotoInia inia m) := goto_row _

end Sys2Proof.Laws.EncodeSelectsRow
end

