-- ==== Sys2Proof/Tests/Slice0.lean ====
section
/-! SUPPORT. Tests: the check of ill-formed terms, the decoding of every row from a word of the spec, one-step vectors of
spec/95_test_vectors.md, and a witness for the hypotheses of each statement. Every expected value is the vector's, or worked out
by hand from the encoding tables; the docstring names the section. -/

namespace Sys2Proof.Tests

open Sys2Proof Sys2Proof.Machine

/-! ### One step on a small state -/

/-- The reset state with the reset latch cleared, as after the first `WakeTask` but with no flag set: the Kernel is current in
cycle 1 of click 0. The single-instruction vectors of 95_test_vectors.md start here. -/
def awake : State := { State.reset with waiting := false }

/-- A state with some general registers set. -/
def withR (l : List (BitVec 4 × Word)) (s : State) : State := { s with r := l.foldl (fun v p => wr v p.1 p.2) s.r }

/-- One step on the word `w`, placed where the step fetches. -/
def ran (s : State) (w : Nat) : Option State :=
  match step (s.withFetchWord 48 w) with
  | .next t => some t
  | .fault _ => none
  | .refused _ => none

/-- The refusal of one step on the word `w`, if it is refused. -/
def refusal (s : State) (w : Nat) : Option Refusal :=
  match step (s.withFetchWord 48 w) with
  | .next _ => none
  | .fault _ => none
  | .refused e => some e

/-- Causes 1, 2 and 3. -/
def causes (memory stack ib : Bool) : ErrSet := { parity := false, memory := memory, stack := stack, ib := ib }

/-! ### Ill-formed terms are refused (30_encoding.md R90 to R110): each check of WellFormed has a term it refuses -/

theorem test_wf_refuses :
    [Instr.srcAB { Micro.idle with aS := .aq }, .fnSUBR { Micro.idle with aF := .add },
      .dest3B { Micro.idle with aD := .ba }, .dest3B { Micro.idle with aD := .b, x := .shift },
      .dest4DoubleRight false { Micro.idle with aD := .q }, .dest4DoubleRight true { Micro.idle with aD := .q, x := .shift },
      .dest5SingleRight false { Micro.idle with aD := .q, x := .shift },
      .ep Micro.idle, .cin1 Micro.idle, .cin0 { Micro.idle with cin := true },
      .suWriteAB { Micro.idle with aS := .ab }, .suWriteAB { Micro.idle with enSU := true },
      .suReadD0 { Micro.idle with aS := .dz }, .memCycle1 Micro.idle, .memCycle2 Micro.idle, .memCycle3 Micro.idle,
      .xLink3 { Micro.idle with x := .link 4 }, .xPush { Micro.idle with x := .pop },
      .yPush Micro.idle, .yPush { Micro.idle with planes := .byte 0xB0 0 }, .yZeroBr Micro.idle,
      .yKCtl { Micro.idle with planes := .yz (.out 2) (.norm .noop) },
      .byteLit 0x11 Micro.idle, .byteLit 0x11 { Micro.idle with planes := .byte 0x12 0 },
      .zPush Micro.idle, .zPush { Micro.idle with planes := .byte 0x06 0 }, .nibLit 3 Micro.idle,
      .nibLit 3 { Micro.idle with planes := .yz (.norm .noop) (.nibble 4) }, .uaddr 2 Micro.idle,
      .zRH { Micro.idle with planes := .yz (.norm .noop) (.input .ib) },
      .gotoInia 0x001 Micro.idle].all (fun i => !WellFormed i) = true := by decide

theorem test_wf_accepts :
    [Instr.srcAQ Micro.idle, .dest1NONE Micro.idle, .dest6DoubleLeft true { Micro.idle with aD := .ba, x := .cycle },
      .suWriteAQ { Micro.idle with enSU := true }, .byteLit 0x11 { Micro.idle with planes := .byte 0x11 2 },
      .yNoop Micro.idle, .zNoop Micro.idle, .gotoInia 0x000 Micro.idle].all WellFormed = true := by decide

/-! ### Decoding: every row of the table from a word of the spec's vectors, or written out from R90 -/

set_option maxRecDepth 4000

/-- R140 to R147; 95_test_vectors.md section 2.3. -/
theorem test_decode_source_pairs :
    ∀ p ∈ ([
      (0x390100888000, .srcAQ { Micro.idle with rA := 3, rB := 9, aS := .aq }),
      (0x392100888000, .srcAB { Micro.idle with rA := 3, rB := 9, aS := .ab }),
      (0x394100888000, .src0Q { Micro.idle with rA := 3, rB := 9, aS := .zq }),
      (0x396100888000, .src0B { Micro.idle with rA := 3, rB := 9, aS := .zb }),
      (0x398100888000, .src0A { Micro.idle with rA := 3, rB := 9, aS := .za }),
      (0x39A10C480000, .srcDA { Micro.idle with rA := 3, rB := 9, aS := .da, planes := .byte 0x40 0 }),
      (0x39C10C480000, .srcDQ { Micro.idle with rA := 3, rB := 9, aS := .dq, planes := .byte 0x40 0 }),
      (0x39E10C480000, .srcD0 { Micro.idle with rA := 3, rB := 9, aS := .dz, planes := .byte 0x40 0 })] : List (MWord × Instr)),
      p.2 ∈ decodeRows p.1 := by decide

/-- R151 to R158. -/
theorem test_decode_functions :
    ∀ p ∈ ([
      (0x242100888000, .fnADD { Micro.idle with rA := 2, rB := 4, aS := .ab, aF := .add }),
      (0x242500888000, .fnSUBR { Micro.idle with rA := 2, rB := 4, aS := .ab, aF := .subr }),
      (0x242900888000, .fnSUBS { Micro.idle with rA := 2, rB := 4, aS := .ab, aF := .subs }),
      (0x242D00888000, .fnOR { Micro.idle with rA := 2, rB := 4, aS := .ab, aF := .or }),
      (0x243100888000, .fnAND { Micro.idle with rA := 2, rB := 4, aS := .ab, aF := .and }),
      (0x243500888000, .fnNOTRS { Micro.idle with rA := 2, rB := 4, aS := .ab, aF := .notrs }),
      (0x243900888000, .fnXOR { Micro.idle with rA := 2, rB := 4, aS := .ab, aF := .xor }),
      (0x243D00888000, .fnXNOR { Micro.idle with rA := 2, rB := 4, aS := .ab, aF := .xnor })] : List (MWord × Instr)),
      p.2 ∈ decodeRows p.1 := by decide

/-- R171 to R178; section 2.4. -/
theorem test_decode_write_back :
    ∀ p ∈ ([
      (0x258000888000, .dest0Q { Micro.idle with rA := 2, rB := 5, aS := .za, aD := .q }),
      (0x258100888000, .dest1NONE { Micro.idle with rA := 2, rB := 5, aS := .za, aD := .none }),
      (0x258200888000, .dest2BA { Micro.idle with rA := 2, rB := 5, aS := .za, aD := .ba }),
      (0x258300888000, .dest3B { Micro.idle with rA := 2, rB := 5, aS := .za, aD := .b }),
      (0x2580008A8000, .dest4DoubleRight false { Micro.idle with rA := 2, rB := 5, aS := .za, aD := .q, x := .shift }),
      (0x2581008B8000, .dest5SingleRight true { Micro.idle with rA := 2, rB := 5, aS := .za, aD := .none, x := .cycle }),
      (0x2582408A8000, .dest6DoubleLeft false { Micro.idle with rA := 2, rB := 5, aS := .za, aD := .ba, x := .shift, cin := true }),
      (0x2583008B8000, .dest7SingleLeft true { Micro.idle with rA := 2, rB := 5, aS := .za, aD := .b, x := .cycle })] : List (MWord × Instr)),
      p.2 ∈ decodeRows p.1 := by decide

/-- R95, R180, R215, R340; sections 2.5, 2.6. -/
theorem test_decode_parity_carry_su :
    ∀ p ∈ ([
      (0x000180888000, .ep { Micro.idle with ep := true }),
      (0x016340888000, .cin1 { Micro.idle with rB := 1, aS := .zb, aD := .b, cin := true }),
      (0x016300888000, .cin0 { Micro.idle with rB := 1, aS := .zb, aD := .b }),
      (0x400120888002, .suWriteAQ { Micro.idle with rA := 4, aS := .aq, enSU := true, inia := 0x002 }),
      (0x402120888002, .suWriteAB { Micro.idle with rA := 4, aS := .ab, enSU := true, inia := 0x002 }),
      (0x404120888002, .suWrite0Q { Micro.idle with rA := 4, aS := .zq, enSU := true, inia := 0x002 }),
      (0x406120888002, .suWrite0B { Micro.idle with rA := 4, aS := .zb, enSU := true, inia := 0x002 }),
      (0x408120888002, .suWrite0A { Micro.idle with rA := 4, aS := .za, enSU := true, inia := 0x002 }),
      (0x01A320888000, .suReadDA { Micro.idle with rB := 1, aS := .da, aD := .b, enSU := true }),
      (0x01C320888000, .suReadDQ { Micro.idle with rB := 1, aS := .dq, aD := .b, enSU := true }),
      (0x01E320888000, .suReadD0 { Micro.idle with rB := 1, aS := .dz, aD := .b, enSU := true })] : List (MWord × Instr)),
      p.2 ∈ decodeRows p.1 := by decide

/-- R231, R234, R236; section 2.7. -/
theorem test_decode_memory :
    ∀ p ∈ ([
      (0x24A111881000, .memCycle1 { Micro.idle with rA := 2, rB := 4, aS := .da, mem := true, planes := .yz (.norm .noop) (.nibble 1) }),
      (0x308110888000, .memCycle2 { Micro.idle with rA := 3, aS := .za, mem := true }),
      (0x02E310888000, .memCycle3 { Micro.idle with rB := 2, aS := .dz, aD := .b, mem := true })] : List (MWord × Instr)),
      p.2 ∈ decodeRows p.1 := by decide

/-- R105; sections 2.5, 2.12, 2.13. -/
theorem test_decode_x_plane :
    ∀ p ∈ ([
      (0x000100808203, .xLink0 { Micro.idle with x := .link 0, inia := 0x203 }),
      (0x000100818205, .xLink1 { Micro.idle with x := .link 1, inia := 0x205 }),
      (0x000100828207, .xLink2 { Micro.idle with x := .link 2, inia := 0x207 }),
      (0x000100838209, .xLink3 { Micro.idle with x := .link 3, inia := 0x209 }),
      (0x00010084820B, .xLink4 { Micro.idle with x := .link 4, inia := 0x20B }),
      (0x00010085820D, .xLink5 { Micro.idle with x := .link 5, inia := 0x20D }),
      (0x00010086820F, .xLink6 { Micro.idle with x := .link 6, inia := 0x20F }),
      (0x000100878201, .xLink7 { Micro.idle with x := .link 7, inia := 0x201 }),
      (0x0001008887FF, .xNoop { Micro.idle with inia := 0x7FF }),
      (0x03010C59A000, .xRHLoad { Micro.idle with rB := 3, x := .rhLoad, planes := .byte 0x5A 0 }),
      (0x2580008A8000, .xShift { Micro.idle with rA := 2, rB := 5, aS := .za, aD := .q, x := .shift }),
      (0x2580008B8000, .xCycle { Micro.idle with rA := 2, rB := 5, aS := .za, aD := .q, x := .cycle }),
      (0x0163008C8000, .xCinPc16 { Micro.idle with rB := 1, aS := .zb, aD := .b, x := .cinPc16 }),
      (0x0001008D8000, .xReserved { Micro.idle with x := .reserved }),
      (0x0001008E8000, .xPop { Micro.idle with x := .pop }),
      (0x0001008F8000, .xPush { Micro.idle with x := .push })] : List (MWord × Instr)),
      p.2 ∈ decodeRows p.1 := by decide

/-- R106; sections 2.7, 2.8, 2.11. -/
theorem test_decode_y_control :
    ∀ p ∈ ([
      (0x000100088000, .yExitKernel { Micro.idle with planes := .yz (.norm .exitKernel) (.norm .noop) }),
      (0x000100188000, .yEnterKernel { Micro.idle with planes := .yz (.norm .enterKernel) (.norm .noop) }),
      (0x000100288000, .yClrIntErr { Micro.idle with planes := .yz (.norm .clrIntErr) (.norm .noop) }),
      (0x000100388300, .yIBDisp { Micro.idle with planes := .yz (.norm .ibDisp) (.norm .noop), inia := 0x300 }),
      (0x000100488000, .yMesaIntRq { Micro.idle with planes := .yz (.norm .mesaIntRq) (.norm .noop) }),
      (0x00E101587000, .yStackPLoad { Micro.idle with aS := .dz, planes := .yz (.norm .stackPLoad) (.nibble 7) }),
      (0x10010068C001, .yIBLoad { Micro.idle with rA := 1, planes := .yz (.norm .ibLoad) (.norm .lrot0), inia := 0x001 }),
      (0x000100788000, .yReserved { Micro.idle with planes := .yz (.norm .reserved) (.norm .noop) }),
      (0x000100888000, .yNoop { Micro.idle with planes := .yz (.norm .noop) (.norm .noop) }),
      (0x10A111981000, .yMap { Micro.idle with rA := 1, aS := .da, mem := true, planes := .yz (.norm .map) (.nibble 1) }),
      (0x000100A88000, .yRefresh { Micro.idle with planes := .yz (.norm .refresh) (.norm .noop) }),
      (0x000100B88000, .yPush { Micro.idle with planes := .yz (.norm .push) (.norm .noop) }),
      (0x000100C88000, .yClrDPRq { Micro.idle with planes := .yz (.norm .clrDPRq) (.norm .noop) }),
      (0x000100D88000, .yClrIOPRq { Micro.idle with planes := .yz (.norm .clrIOPRq) (.norm .noop) }),
      (0x000100E88000, .yClrKFlags { Micro.idle with planes := .yz (.norm .clrKFlags) (.norm .noop) }),
      (0x000100F88000, .yPop { Micro.idle with planes := .yz (.norm .pop) (.norm .noop) })] : List (MWord × Instr)),
      p.2 ∈ decodeRows p.1 := by decide

/-- R107; section 2.9. -/
theorem test_decode_branches :
    ∀ p ∈ ([
      (0x012104088001, .yNegBr { Micro.idle with rB := 1, aS := .ab, planes := .yz (.branch .negBr) (.norm .noop), inia := 0x001 }),
      (0x012104188001, .yZeroBr { Micro.idle with rB := 1, aS := .ab, planes := .yz (.branch .zeroBr) (.norm .noop), inia := 0x001 }),
      (0x012104288001, .yNZeroBr { Micro.idle with rB := 1, aS := .ab, planes := .yz (.branch .nZeroBr) (.norm .noop), inia := 0x001 }),
      (0x000104388001, .yMesaIntBr { Micro.idle with planes := .yz (.branch .mesaIntBr) (.norm .noop), inia := 0x001 }),
      (0x012104488001, .yPgCarryBr { Micro.idle with rB := 1, aS := .ab, planes := .yz (.branch .pgCarryBr) (.norm .noop), inia := 0x001 }),
      (0x012104588001, .yCarryBr { Micro.idle with rB := 1, aS := .ab, planes := .yz (.branch .carryBr) (.norm .noop), inia := 0x001 }),
      (0x60010468C001, .yXRefBr { Micro.idle with rA := 6, planes := .yz (.branch .xRefBr) (.norm .lrot0), inia := 0x001 }),
      (0x012104788001, .yNibCarryBr { Micro.idle with rB := 1, aS := .ab, planes := .yz (.branch .nibCarryBr) (.norm .noop), inia := 0x001 }),
      (0x60010488C001, .yXDisp { Micro.idle with rA := 6, planes := .yz (.branch .xDisp) (.norm .lrot0), inia := 0x001 }),
      (0x208104988001, .yYDisp { Micro.idle with rA := 2, aS := .za, planes := .yz (.branch .yDisp) (.norm .noop), inia := 0x001 }),
      (0x000105A88001, .yXC2npcDisp { Micro.idle with planes := .yz (.branch .xc2npcDisp) (.nibble 8), inia := 0x001 }),
      (0x208104B88001, .yYIODisp { Micro.idle with rA := 2, aS := .za, planes := .yz (.branch .yIODisp) (.norm .noop), inia := 0x001 }),
      (0x600104C8C001, .yXwdDisp { Micro.idle with rA := 6, planes := .yz (.branch .xwdDisp) (.norm .lrot0), inia := 0x001 }),
      (0x600104D8C001, .yXHDisp { Micro.idle with rA := 6, planes := .yz (.branch .xhDisp) (.norm .lrot0), inia := 0x001 }),
      (0x600104E8C001, .yXLDisp { Micro.idle with rA := 6, planes := .yz (.branch .xlDisp) (.norm .lrot0), inia := 0x001 }),
      (0x012104F88001, .yPgCrOvDisp { Micro.idle with rB := 1, aS := .ab, planes := .yz (.branch .pgCrOvDisp) (.norm .noop), inia := 0x001 })] : List (MWord × Instr)),
      p.2 ∈ decodeRows p.1 := by decide

/-- R108; section 2.10. -/
theorem test_decode_device_writes :
    ∀ p ∈ ([
      (0x208108088000, .yIOPOData { Micro.idle with rA := 2, aS := .za, planes := .yz (.out 0) (.norm .noop) }),
      (0x208108188000, .yIOPCtl { Micro.idle with rA := 2, aS := .za, planes := .yz (.out 1) (.norm .noop) }),
      (0x208108288000, .yKOData { Micro.idle with rA := 2, aS := .za, planes := .yz (.out 2) (.norm .noop) }),
      (0x208108388000, .yKCtl { Micro.idle with rA := 2, aS := .za, planes := .yz (.out 3) (.norm .noop) }),
      (0x208108488000, .yEOData { Micro.idle with rA := 2, aS := .za, planes := .yz (.out 4) (.norm .noop) }),
      (0x208108588000, .yEICtl { Micro.idle with rA := 2, aS := .za, planes := .yz (.out 5) (.norm .noop) }),
      (0x208108688000, .yDCtlFifo { Micro.idle with rA := 2, aS := .za, planes := .yz (.out 6) (.norm .noop) }),
      (0x208108788000, .yDCtl { Micro.idle with rA := 2, aS := .za, planes := .yz (.out 7) (.norm .noop) }),
      (0x208108888000, .yDBorder { Micro.idle with rA := 2, aS := .za, planes := .yz (.out 8) (.norm .noop) }),
      (0x208108988000, .yPCtl { Micro.idle with rA := 2, aS := .za, planes := .yz (.out 9) (.norm .noop) }),
      (0x208108A88000, .yMCtl { Micro.idle with rA := 2, aS := .za, planes := .yz (.out 10) (.norm .noop) }),
      (0x208108B88000, .yOut11 { Micro.idle with rA := 2, aS := .za, planes := .yz (.out 11) (.norm .noop) }),
      (0x208108C88000, .yEOCtl { Micro.idle with rA := 2, aS := .za, planes := .yz (.out 12) (.norm .noop) }),
      (0x208108D88000, .yKCmd { Micro.idle with rA := 2, aS := .za, planes := .yz (.out 13) (.norm .noop) }),
      (0x208108E88000, .yOut14 { Micro.idle with rA := 2, aS := .za, planes := .yz (.out 14) (.norm .noop) }),
      (0x208108F88000, .yPOData { Micro.idle with rA := 2, aS := .za, planes := .yz (.out 15) (.norm .noop) })] : List (MWord × Instr)),
      p.2 ∈ decodeRows p.1 := by decide

/-- R109; sections 2.5, 2.6, 2.12. -/
theorem test_decode_z_norm :
    ∀ p ∈ ([
      (0x000100880000, .zRefresh { Micro.idle with planes := .yz (.norm .noop) (.norm .refresh) }),
      (0x000100881000, .zReserved1 { Micro.idle with planes := .yz (.norm .noop) (.norm .reserved1) }),
      (0x000100882000, .zReserved2 { Micro.idle with planes := .yz (.norm .noop) (.norm .reserved2) }),
      (0x016340883000, .zCinPc16 { Micro.idle with rB := 1, aS := .zb, aD := .b, cin := true, planes := .yz (.norm .noop) (.norm .cinPc16) }),
      (0x000100884000, .zReserved4 { Micro.idle with planes := .yz (.norm .noop) (.norm .reserved4) }),
      (0x000100885000, .zPop { Micro.idle with planes := .yz (.norm .noop) (.norm .pop) }),
      (0x000100886000, .zPush { Micro.idle with planes := .yz (.norm .noop) (.norm .push) }),
      (0x000100887000, .zAlwaysIBDisp { Micro.idle with planes := .yz (.norm .noop) (.norm .alwaysIBDisp) }),
      (0x000100888000, .zNoop { Micro.idle with planes := .yz (.norm .noop) (.norm .noop) }),
      (0x000100889000, .zReserved9 { Micro.idle with planes := .yz (.norm .noop) (.norm .reserved9) }),
      (0x00010088A000, .zReservedA { Micro.idle with planes := .yz (.norm .noop) (.norm .reservedA) }),
      (0x00010088B000, .zReservedB { Micro.idle with planes := .yz (.norm .noop) (.norm .reservedB) }),
      (0x61E30088C000, .zLRot0 { Micro.idle with rA := 6, rB := 1, aS := .dz, aD := .b, planes := .yz (.norm .noop) (.norm .lrot0) }),
      (0x61E30088D000, .zLRot12 { Micro.idle with rA := 6, rB := 1, aS := .dz, aD := .b, planes := .yz (.norm .noop) (.norm .lrot12) }),
      (0x61E30088E000, .zLRot8 { Micro.idle with rA := 6, rB := 1, aS := .dz, aD := .b, planes := .yz (.norm .noop) (.norm .lrot8) }),
      (0x61E30088F000, .zLRot4 { Micro.idle with rA := 6, rB := 1, aS := .dz, aD := .b, planes := .yz (.norm .noop) (.norm .lrot4) })] : List (MWord × Instr)),
      p.2 ∈ decodeRows p.1 := by decide

/-- R104, R131, R351; sections 2.6, 2.11. -/
theorem test_decode_literals :
    ∀ p ∈ ([
      (0x01E30CA85000, .byteLit 0xA5 { Micro.idle with rB := 1, aS := .dz, aD := .b, planes := .byte 0xA5 0 }),
      (0x01E301887000, .nibLit 7 { Micro.idle with rB := 1, aS := .dz, aD := .b, planes := .yz (.norm .noop) (.nibble 7) }),
      (0x61E322882000, .uaddr 2 { Micro.idle with rA := 6, rB := 1, aS := .dz, aD := .b, enSU := true, planes := .yz (.norm .noop) (.uaddr 2) }),
      (0x0001008887F2, .gotoInia 0x7F2 { Micro.idle with inia := 0x7F2 })] : List (MWord × Instr)),
      p.2 ∈ decodeRows p.1 := by decide

/-- R110; section 2.6. -/
theorem test_decode_z_inputs :
    ∀ p ∈ ([
      (0x01E303880000, .zEIData { Micro.idle with rB := 1, aS := .dz, aD := .b, planes := .yz (.norm .noop) (.input .eiData) }),
      (0x01E303881000, .zEStatus { Micro.idle with rB := 1, aS := .dz, aD := .b, planes := .yz (.norm .noop) (.input .eStatus) }),
      (0x01E303882000, .zKIData { Micro.idle with rB := 1, aS := .dz, aD := .b, planes := .yz (.norm .noop) (.input .kiData) }),
      (0x01E303883000, .zKStatus { Micro.idle with rB := 1, aS := .dz, aD := .b, planes := .yz (.norm .noop) (.input .kStatus) }),
      (0x01E303884000, .zKStrobe { Micro.idle with rB := 1, aS := .dz, aD := .b, planes := .yz (.norm .noop) (.input .kStrobe) }),
      (0x01E303885000, .zMStatus { Micro.idle with rB := 1, aS := .dz, aD := .b, planes := .yz (.norm .noop) (.input .mStatus) }),
      (0x01E303886000, .zKTest { Micro.idle with rB := 1, aS := .dz, aD := .b, planes := .yz (.norm .noop) (.input .kTest) }),
      (0x01E303887000, .zEStrobe { Micro.idle with rB := 1, aS := .dz, aD := .b, planes := .yz (.norm .noop) (.input .eStrobe) }),
      (0x01E303888000, .zIOPIData { Micro.idle with rB := 1, aS := .dz, aD := .b, planes := .yz (.norm .noop) (.input .iopIData) }),
      (0x01E303889000, .zIOPStatus { Micro.idle with rB := 1, aS := .dz, aD := .b, planes := .yz (.norm .noop) (.input .iopStatus) }),
      (0x01E30388A000, .zErrIBStk { Micro.idle with rB := 1, aS := .dz, aD := .b, planes := .yz (.norm .noop) (.input .errIBStk) }),
      (0x01E30388B000, .zRH { Micro.idle with rB := 1, aS := .dz, aD := .b, planes := .yz (.norm .noop) (.input .rh) }),
      (0x01E30388C000, .zIbNA { Micro.idle with rB := 1, aS := .dz, aD := .b, planes := .yz (.norm .noop) (.input .ibNA) }),
      (0x01E30388D000, .zIb { Micro.idle with rB := 1, aS := .dz, aD := .b, planes := .yz (.norm .noop) (.input .ib) }),
      (0x01E30388E000, .zIbLow { Micro.idle with rB := 1, aS := .dz, aD := .b, planes := .yz (.norm .noop) (.input .ibLow) }),
      (0x01E30388F000, .zIbHigh { Micro.idle with rB := 1, aS := .dz, aD := .b, planes := .yz (.norm .noop) (.input .ibHigh) })] : List (MWord × Instr)),
      p.2 ∈ decodeRows p.1 := by decide

/-! ### ALU (95_test_vectors.md T1, T9, sections 2.1 to 2.5) -/

/-- T1. -/
theorem test_T1_add_wraps :
    (ran (withR [(0, 0x0001), (1, 0xFFFF)] awake) 0x012300888000).map (fun t => (rd t.r 0, rd t.r 1, rd t.r 2, t.flags))
      = some (0x0001, 0x0000, 0x0000, { zero := true, negative := false, nibbleCarry := true, pageCarry := true,
                                        carryOut := true, overflow := false }) := by decide

/-- Section 2.1: function, R, S, carry-in; F and the six flags. -/
theorem test_alu_arithmetic :
    ∀ v ∈ ([(.add, 0x7FFF, 0x0001, false, 0x8000, ⟨false, true, true, true, false, true⟩),
            (.add, 0x8000, 0x8000, false, 0x0000, ⟨true, false, false, false, true, true⟩),
            (.add, 0xFFFF, 0xFFFF, true, 0xFFFF, ⟨false, true, true, true, true, false⟩),
            (.add, 0x000F, 0x0001, false, 0x0010, ⟨false, false, true, false, false, false⟩),
            (.subr, 0x0001, 0x0005, true, 0x0004, ⟨false, false, true, true, true, false⟩),
            (.subr, 0x0005, 0x0001, true, 0xFFFC, ⟨false, true, false, false, false, false⟩),
            (.subr, 0x0001, 0x8000, true, 0x7FFF, ⟨false, false, false, false, true, true⟩),
            (.subr, 0x1234, 0x1234, false, 0xFFFF, ⟨false, true, false, false, false, false⟩),
            (.subs, 0x0000, 0x0001, true, 0xFFFF, ⟨false, true, false, false, false, false⟩),
            (.subs, 0x0100, 0x0001, true, 0x00FF, ⟨false, false, false, false, true, false⟩),
            (.subs, 0x7FFF, 0xFFFF, true, 0x8000, ⟨false, true, true, true, false, true⟩)] :
          List (AluFn × Word × Word × Bool × Word × Flags)),
      (aluFn .uninterpreted v.1 v.2.1 v.2.2.1 v.2.2.2.1).out = ⟨v.2.2.2.2.1, v.2.2.2.2.2⟩ := by decide

/-- Section 2.2: F, Zero and Negative of the rules; the four carry-type flags are those of the unverified instance U1, which
the vector tabulates and which the machine has only if its parameters choose it. -/
theorem test_alu_logical :
    ∀ v ∈ ([(.or, 0x00F0, 0x0F00, false, 0x0FF0, ⟨false, false, true, true, true, true⟩),
            (.or, 0xFFFF, 0x0000, false, 0xFFFF, ⟨false, true, false, false, false, false⟩),
            (.and, 0x0FF0, 0x00FF, false, 0x00F0, ⟨false, false, false, true, true, true⟩),
            (.and, 0x0000, 0xFFFF, true, 0x0000, ⟨true, false, true, true, true, true⟩),
            (.notrs, 0x00FF, 0x0FF0, false, 0x0F00, ⟨false, false, false, false, true, true⟩),
            (.notrs, 0x0000, 0x8000, false, 0x8000, ⟨false, true, false, false, true, true⟩),
            (.xor, 0x1234, 0x00FF, false, 0x12CB, ⟨false, false, false, false, true, false⟩),
            (.xor, 0x8000, 0x0000, true, 0x8000, ⟨false, true, true, true, true, false⟩),
            (.xnor, 0x0000, 0xAB00, false, 0x54FF, ⟨false, false, true, true, true, false⟩),
            (.xnor, 0x1234, 0x1234, true, 0xFFFF, ⟨false, true, true, true, true, false⟩)] :
          List (AluFn × Word × Word × Bool × Word × Flags)),
      (aluFn .suggested v.1 v.2.1 v.2.2.1 v.2.2.2.1).out = ⟨v.2.2.2.2.1, v.2.2.2.2.2⟩ := by decide

/-- Section 2.3. -/
theorem test_source_pairs :
    ∀ v ∈ ([(0x390100888000, 0x0007), (0x392100888000, 0x0305), (0x394100888000, 0x0002), (0x396100888000, 0x0300),
            (0x398100888000, 0x0005), (0x39A10C480000, 0x0045), (0x39C10C480000, 0x0042), (0x39E10C480000, 0x0040)] :
          List (Nat × Word)),
      yBus (decodeMicro (BitVec.ofNat 48 v.1)) { withR [(3, 0x0005), (9, 0x0300)] awake with q := 0x0002 } = v.2 := by decide

/-- Section 2.4: word, R[2], Q; R[5] and Q after, and the Y bus. -/
theorem test_write_back :
    ∀ v ∈ ([(0x258000888000, 0x1234, 0x9999, 0x5555, 0x1234, 0x1234), (0x258100888000, 0x1234, 0x9999, 0x5555, 0x9999, 0x1234),
            (0x258200888000, 0x1234, 0x9999, 0x1234, 0x9999, 0x1234), (0x258300888000, 0x1234, 0x9999, 0x1234, 0x9999, 0x1234),
            (0x2580008A8000, 0x0003, 0x0001, 0x0001, 0x8000, 0x0003), (0x2580008B8000, 0x0003, 0x0001, 0x8001, 0x8000, 0x0003),
            (0x2580408A8000, 0x0001, 0x0001, 0x8001, 0x0000, 0x0002), (0x2581008A8000, 0x8001, 0x9999, 0x4000, 0x9999, 0x8001),
            (0x2581408A8000, 0x7FFF, 0x9999, 0xC000, 0x9999, 0x8000), (0x2581008B8000, 0x8001, 0x9999, 0xC000, 0x9999, 0x8001),
            (0x2582008A8000, 0x8001, 0x8000, 0x0003, 0x0000, 0x8001), (0x2582008B8000, 0x8001, 0x8000, 0x0003, 0x0001, 0x8001),
            (0x2582408A8000, 0x3FFF, 0x0001, 0x8000, 0x0003, 0x4000), (0x2583008A8000, 0x8001, 0x9999, 0x0002, 0x9999, 0x8001),
            (0x2583408A8000, 0x7FFF, 0x9999, 0x0001, 0x9999, 0x8000), (0x2583008B8000, 0x8001, 0x9999, 0x0003, 0x9999, 0x8001)] :
          List (Nat × Word × Word × Word × Word × Word)),
      (ran { withR [(2, v.2.1), (5, 0x5555)] awake with q := v.2.2.1 } v.1).map (fun t => (rd t.r 5, t.q))
          = some (v.2.2.2.1, v.2.2.2.2.1)
        ∧ yBus (decodeMicro (BitVec.ofNat 48 v.1)) (withR [(2, v.2.1), (5, 0x5555)] awake) = v.2.2.2.2.2 := by decide

/-- Section 2.5: word, pc16 before; R[1] and pc16 after. -/
theorem test_carry_in :
    ∀ v ∈ ([(0x0163008C8000, true, 0x0011, false), (0x0163008C8000, false, 0x0010, true), (0x0163408C8000, false, 0x0010, true),
            (0x016340883000, true, 0x0011, false), (0x016340883000, false, 0x0010, true), (0x016300883000, true, 0x0010, true),
            (0x016340888000, false, 0x0011, false), (0x016300888000, true, 0x0010, true)] : List (Nat × Bool × Word × Bool)),
      (ran { withR [(1, 0x0010)] awake with pc16 := v.2.1 } v.1).map (fun t => (rd t.r 1, t.pc16))
        = some (v.2.2.1, v.2.2.2) := by decide

/-- T9: aF = 0 to 7 in address-load mode. -/
theorem test_T9_address_load :
    ∀ v ∈ ([(0x24A31C280000, 0x1210), (0x24A71C280000, 0x12CF), (0x24AB1C280000, 0x122F), (0x24AF1C280000, 0x12F0),
            (0x24B31C280000, 0xED20), (0x24B71C280000, 0xEDD0), (0x24BB1C280000, 0xEDD0), (0x24BF1C280000, 0xED2F)] :
          List (Nat × Word)),
      (ran (withR [(2, 0x00F0), (4, 0x12FF)] awake) v.1).map (fun t => rd t.r 4) = some v.2 := by decide

/-! ### X bus, memory staging, SU file (sections 2.6, 2.7, 2.12) -/

/-- The state of section 2.6. -/
def busState (c : Cycle) : State :=
  { withR [(6, 0x1234)] awake with
    rh := wr State.reset.rh 1 0x5A, su := wr (wr State.reset.su 0x03 0x00AA) 0x62 0x0BEE, stackP := 3, ibFront := 0x5C,
    ibPair := 0x5C77, ibPtr := .word, errSet := causes false true false, cycle := c,
    inputs := { EnvInputs.quiet with data := Vector.replicate _ { value := 0xCAFE, valid := true },
                                     device := Vector.ofFn (fun k => 0x0C00 + BitVec.ofNat 16 k.val) } }

/-- Section 2.6: word, cycle; R[1] after, which is the X bus. -/
theorem test_x_bus :
    ∀ v ∈ ([(0x01E30CA85000, .c1, 0x00A5), (0x01E301887000, .c1, 0x0007), (0x01E303880000, .c1, 0x0C00),
            (0x01E303881000, .c1, 0x0C01), (0x01E303882000, .c1, 0x0C02), (0x01E303883000, .c1, 0x0C03),
            (0x01E303884000, .c1, 0x0000), (0x01E303885000, .c1, 0x0C05), (0x01E303886000, .c1, 0x0C06),
            (0x01E303887000, .c1, 0x0000), (0x01E303888000, .c1, 0x0C08), (0x01E303889000, .c1, 0x0C09),
            (0x01E30388A000, .c1, 0x009C), (0x01E30388B000, .c1, 0x005A), (0x01E30388C000, .c1, 0x005C),
            (0x01E30388D000, .c1, 0x005C), (0x01E30388E000, .c1, 0x000C), (0x01E30388F000, .c1, 0x0005),
            (0x61E30088C000, .c1, 0x1234), (0x61E30088D000, .c1, 0x4123), (0x61E30088E000, .c1, 0x3412),
            (0x61E30088F000, .c1, 0x2341), (0x01E320888000, .c1, 0x00AA), (0x61E322882000, .c1, 0x0BEE),
            (0x01E310888000, .c3, 0xCAFE), (0x01E310888000, .c2, 0x0000), (0x01E300888000, .c1, 0x0000),
            (0x01E32C181000, .c1, 0x0011)] : List (Nat × Cycle × Word)),
      (ran (busState v.2.1) v.1).map (fun t => rd t.r 1) = some v.2.2 := by decide

/-- Section 2.6: which reads advance the buffer; the two strobes; RH<-. -/
theorem test_x_bus_effects :
    ([0x01E30388C000, 0x01E30388D000, 0x01E30388E000, 0x01E30388F000].map (fun w =>
        (ran (busState .c1) w).map (fun t => (t.ibPtr, t.ibFront)))
      = [some (.word, 0x5C), some (.byte, 0x77), some (.byte, 0x77), some (.word, 0x5C)])
    ∧ (ran (busState .c1) 0x01E303884000).map (fun t => t.events) = some [.deviceStrobe 4]
    ∧ (ran (busState .c1) 0x01E303887000).map (fun t => t.events) = some [.deviceStrobe 7]
    ∧ (ran awake 0x03010C59A000).map (fun t => rd t.rh 3) = some 0x5A := by decide

/-- Section 2.6, last paragraph: a peek on an Empty buffer in cycles 1, 2 and 3. -/
theorem test_peek_empty :
    [Cycle.c1, .c2, .c3].map (fun c => (ran { awake with ibFront := 0x77, cycle := c } 0x00010388C000).map (fun t =>
        (t.errSet, t.trapCount, t.ibEmptyLatch)))
      = [some (causes false false true, 1, true), some (causes false false true, 1, false),
         some (causes false false true, 2, false)] := by decide

/-- Section 2.7: address loads in cycle 1. -/
theorem test_address_load :
    ∀ v ∈ ([(0x24A111881000, 0x00F0, 0x12FF, 0x01, .physical, 0x0112F1, 0, false),
            (0x24A31C280000, 0x00F0, 0x12FF, 0x01, .physical, 0x011210, 2, true),
            (0x24A55C280000, 0x0010, 0x3400, 0x02, .physical, 0x0234F0, 2, true),
            (0x24A55C280000, 0x0030, 0x3400, 0x02, .physical, 0x023410, 0, false)] :
          List (Nat × Word × Word × Byte × AddrKind × BitVec 24 × Nibble × Bool)),
      (ran { withR [(2, v.2.1), (4, v.2.2.1)] awake with rh := wr State.reset.rh 4 v.2.2.2.1 } v.1).map (fun t =>
          (t.events, t.niax, t.pageCrossLatch))
        = some ([.loadAddressRegister v.2.2.2.2.1 v.2.2.2.2.2.1], v.2.2.2.2.2.2.1, v.2.2.2.2.2.2.2) := by decide

/-- Section 2.7: the mapped load, the data load and its two cancellations, the data read, valid and not. -/
theorem test_memory :
    (ran (withR [(1, 0x03FF)] awake) 0x10A111981000).map (fun t => (t.events, t.niax, t.pageCrossLatch))
        = some ([.loadAddressRegister .mapped 0x000400], 0, false)
    ∧ (ran { withR [(3, 0x1234)] awake with cycle := .c2 } 0x308110888000).map (fun t => t.events)
        = some [.loadDataRegister 0x1234]
    ∧ (ran { withR [(3, 0x1234)] awake with cycle := .c2, pageCrossLatch := true } 0x308110888000).map (fun t => t.events)
        = some []
    ∧ (ran { withR [(3, 0x1234)] awake with cycle := .c2, ibEmptyLatch := true } 0x308110888000).map (fun t => t.events)
        = some []
    ∧ [(0xBEEF, true), (0x00FF, false)].map (fun a =>
          (ran { awake with cycle := .c3, inputs := { EnvInputs.quiet with data := Vector.replicate _ ⟨a.1, a.2⟩ } }
            0x02E310888000).map (fun t => (rd t.r 2, t.errSet, t.trapCount)))
        = [some (0xBEEF, ErrSet.empty, 0), some (0x00FF, causes true false false, 2)] := by decide

/-- Section 2.12: a U-address write, and the store of the push sequence at the moved pointer. -/
theorem test_su_write :
    (ran (withR [(4, 0x0007)] awake) 0x408122882000).map (fun t => rd t.su 0x42) = some 0x0007
    ∧ (ran { withR [(4, 0x1111)] awake with stackP := 4 } 0x408120888002).map (fun t => (rd t.su 4, rd t.su 3))
        = some (0x1111, 0x0000) := by decide

/-! ### Y plane (sections 2.8 to 2.10) -/

/-- Section 2.8: the Kernel and interrupt operations. -/
theorem test_control :
    [Cycle.c1, .c2].map (fun c => (ran { awake with wake := wr State.reset.wake 7 true, cycle := c } 0x000100088000).map
        (fun t => (t.kernelExit, rd t.wake 7))) = [some (true, false), some (false, true)]
    ∧ (ran { awake with curTask := .emulator } 0x000100188000).map (fun t => (rd t.wake 7, rd t.wake 0)) = some (true, false)
    ∧ (ran { awake with errSet := causes true false true, mint := true, trapCount := 1 } 0x000100288000).map
        (fun t => (t.errSet, t.mint, t.trapCount)) = some (ErrSet.empty, false, 1)
    ∧ (ran { awake with errSet := causes true false false } 0x0001002E8000).map (fun t => (t.errSet, t.stackP, t.trapCount))
        = some (causes false true false, 15, 1)
    ∧ (ran awake 0x000100488000).map (fun t => t.mint) = some true
    ∧ (ran { awake with stackP := 2 } 0x00E101587000).map (fun t => t.stackP) = some 7
    ∧ (ran { awake with stackP := 15 } 0x00E1015F7000).map (fun t => (t.stackP, t.errSet))
        = some (7, causes false true false) := by decide

/-- Section 2.8: the strobes and clears. -/
theorem test_control_events :
    [0x000100A88000, 0x000100880000, 0x000100A80000, 0x000100C88000, 0x000100D88000, 0x000100E88000].map
        (fun w => (ran awake w).map (fun t => t.events))
      = [some [.refresh], some [.refresh], some [.refresh], some [.clearRequest .display], some [.clearRequest .iop],
         some [.clearRequest .diskFlags]] := by decide

/-- Section 2.9: word, registers, pc16, the modifier after it (the rows that start in cycle 1 with nothing latched). -/
theorem test_branches :
    ∀ v ∈ ([(0x012104088001, [(0, 0x7FFF), (1, 0x0001)], false, 1), (0x012104088001, [(0, 0x0001), (1, 0x0001)], false, 0),
            (0x012104188001, [(0, 0x0001), (1, 0xFFFF)], false, 1), (0x012104188001, [(0, 0x0001), (1, 0x0001)], false, 0),
            (0x012104288001, [(0, 0x0001), (1, 0x0001)], false, 1), (0x012104488001, [(0, 0x00F0), (1, 0x0020)], false, 1),
            (0x012104588001, [(0, 0x0001), (1, 0xFFFF)], false, 1), (0x012104588001, [(0, 0x0001), (1, 0x0001)], false, 0),
            (0x60010468C001, [(6, 0x0010)], false, 1), (0x00010568F001, [], false, 0),
            (0x012104788001, [(0, 0x000F), (1, 0x0001)], false, 1), (0x000105885001, [], false, 5),
            (0x60010488C001, [(6, 0x12A5)], false, 5), (0x208104988001, [(2, 0x123C)], false, 0xC),
            (0x228244988001, [(2, 0x0007)], false, 7), (0x000105A84001, [], true, 4),
            (0x600104C8C001, [(6, 0x0040)], false, 2), (0x600104C8C001, [(6, 0x0020)], false, 1),
            (0x600104D8C001, [(6, 0x8000)], false, 1), (0x600104D8C001, [(6, 0x0800)], false, 2),
            (0x600104E8C001, [(6, 0x0081)], false, 3)] : List (Nat × List (BitVec 4 × Word) × Bool × Nibble)),
      (ran { withR v.2.1 awake with pc16 := v.2.2.1 } v.1).map (fun t => t.niax) = some v.2.2.2 := by decide

/-- Section 2.9: the rows with another state. -/
theorem test_branches_on_state :
    [true, false].map (fun b => (ran { awake with mint := b } 0x000104388001).map (fun t => t.niax)) = [some 1, some 0]
    ∧ (ran { awake with cycle := .c2 } 0x000105A88001).map (fun t => t.niax) = some 0xB
    ∧ (ran { withR [(2, 0x0004)] awake with inputs := { EnvInputs.quiet with ioDisp := 2 } } 0x208104B88001).map
        (fun t => t.niax) = some 6
    ∧ (ran { withR [(0, 0x7FFF), (1, 0x0001)] awake with cycle := .c2 } 0x012104F88001).map (fun t => t.niax) = some 1
    ∧ (ran { withR [(0, 0x0001), (1, 0x0001)] awake with cycle := .c2, pageCrossLatch := true } 0x012104F88001).map
        (fun t => t.niax) = some 2 := by decide

/-- Section 2.10: every port, and the old `R[rA]` on Y with write-back code 2 (word `rA=2 rB=2 aS=0A aD=BA Cin=1`, port 3). -/
theorem test_device_writes :
    (∀ v ∈ ([(0x208108088000, 0), (0x208108188000, 1), (0x208108288000, 2), (0x208108388000, 3), (0x208108488000, 4),
             (0x208108588000, 5), (0x208108688000, 6), (0x208108788000, 7), (0x208108888000, 8), (0x208108988000, 9),
             (0x208108A88000, 10), (0x208108B88000, 11), (0x208108C88000, 12), (0x208108D88000, 13), (0x208108E88000, 14),
             (0x208108F88000, 15)] : List (Nat × BitVec 4)),
        (ran (withR [(2, 0x1107)] awake) v.1).map (fun t => t.events) = some [.deviceWrite v.2 0x1107])
    ∧ (ran (withR [(2, 0x1107)] awake) 0x228248388000).map (fun t => (t.events, rd t.r 2))
        = some ([.deviceWrite 3 0x1107], 0x1108) := by decide

/-! ### Instruction buffer, stack, next address, links (T2 to T4, sections 2.11 to 2.13) -/

/-- A state with an instruction buffer. -/
def withIb (front : Byte) (pair : Word) (ptr : IbPtr) (s : State) : State := { s with ibFront := front, ibPair := pair, ibPtr := ptr }

/-- Section 2.11, the first instruction of each case: the buffer, the merge rule, the cause IBEmpty. -/
theorem test_instruction_buffer :
    ∀ v ∈ ([(0x10010068C001, withR [(1, 0x1234)] awake, ⟨0x12, 0x1234, .word⟩, .plain, false),
            (0x10010068C001, withR [(1, 0x5678)] (withIb 0x34 0x1234 .byte awake), ⟨0x34, 0x5678, .full⟩, .plain, false),
            (0x03E30388D002, withIb 0x12 0x1234 .word awake, ⟨0x34, 0x1234, .byte⟩, .plain, false),
            (0x000100388300, withIb 0xA5 0x5678 .full awake, ⟨0x56, 0x5678, .word⟩, .ibDisp 0xA5, false),
            (0x000100388300, withIb 0x34 0x1234 .byte awake, ⟨0x34, 0x1234, .byte⟩, .refill false false, false),
            (0x000100388300, { awake with mint := true }, ⟨0x00, 0x0000, .empty⟩, .refill true true, false),
            (0x000100887300, withIb 0x21 0x0021 .byte awake, ⟨0x21, 0x0021, .empty⟩, .ibDisp 0x21, false),
            (0x000100887300, withIb 0x21 0x0000 .empty awake, ⟨0x21, 0x0000, .empty⟩, .ibDisp 0x21, true),
            (0x01E30338D300, withIb 0xA5 0x5678 .full awake, ⟨0x56, 0x5678, .word⟩, .ibDisp 0xA5, false)] :
          List (Nat × State × IbData × PendKind × Bool)),
      (ran v.2.1 v.1).map (fun t => (t.ib, t.pendKind, t.errSet.ib)) = some v.2.2 := by decide

/-- 46_ib.md R313, 93_implementation_defined.md U7: the loads to which the document gives no effect are refused (the last word
is `Y:IB<- Z:<-ib`). -/
theorem test_buffer_load_refused :
    refusal (withIb 0x12 0x1234 .word awake) 0x10010068C001 = some .ibLoadWithoutRoom
    ∧ refusal (withIb 0x12 0x1234 .full awake) 0x10010068C001 = some .ibLoadWithoutRoom
    ∧ refusal awake 0x000100687000 = some .ibLoadWithConsume
    ∧ refusal awake 0x00010368D000 = some .ibLoadWithConsume := by decide

/-- Section 2.12, T3, T4: word, pointer before; pointer after and the cause. -/
theorem test_stack :
    ∀ v ∈ ([(0x0001008F8000, 4, 5, false), (0x0001008F8000, 15, 0, true), (0x0001008E8000, 4, 3, false),
            (0x0001008E8000, 0, 15, true), (0x000100FE8000, 2, 1, false), (0x000100FE8000, 1, 0, true),
            (0x000100FE8000, 0, 15, true), (0x000100FE5000, 1, 0, true), (0x000100FF8000, 4, 4, false),
            (0x000100FF8000, 15, 15, true), (0x000100FF8000, 0, 0, true), (0x000100886000, 15, 0, true),
            (0x000100885000, 0, 15, true), (0x000100B88000, 15, 0, true), (0x000100F88000, 1, 0, false),
            (0x000100BF6000, 4, 5, false)] : List (Nat × Nibble × Nibble × Bool)),
      (ran { awake with stackP := v.2.1 } v.1).map (fun t => (t.stackP, t.errSet, t.trapCount))
        = some (v.2.2.1, causes false v.2.2.2 false, v.2.2.2.toNat) := by decide

/-- Section 2.13: merge rule, countdown, literal, modifier; the next address. -/
theorem test_next_address :
    ∀ v ∈ ([(.plain, 0, 0x100, 0x1, 0x101), (.plain, 0, 0x10F, 0xF, 0x10F), (.ibDisp 0xA5, 0, 0x700, 0x0, 0x7A5),
            (.ibDisp 0x34, 0, 0x7F2, 0x1, 0x737), (.ibDisp 0xFF, 0, 0x000, 0x0, 0x0FF), (.refill false false, 0, 0x7FF, 0x5, 0x600),
            (.refill false true, 0, 0x7FF, 0x0, 0x700), (.refill true false, 0, 0x7FF, 0x0, 0x400),
            (.refill true true, 0, 0xBFF, 0x0, 0x900), (.ibDisp 0xA5, 1, 0x700, 0x2, 0x702),
            (.refill true true, 2, 0x7FF, 0x1, 0x7FF)] : List (PendKind × Nat × MAddr × Nibble × MAddr)),
      nextAddr { Micro.idle with inia := v.2.2.1 } { awake with pendKind := v.1, trapCount := v.2.1, niax := v.2.2.2.1 }
        = v.2.2.2.2 := by decide

/-- Section 2.13: the call word captures the low nibble of the next address; the return word ORs it into the modifier. -/
theorem test_links :
    ∀ v ∈ ([(0, 0x000100808203, 0x000100808310, 0x3), (1, 0x000100818205, 0x000100818310, 0x5),
            (2, 0x000100828207, 0x000100828310, 0x7), (3, 0x000100838209, 0x000100838310, 0x9),
            (4, 0x00010084820B, 0x000100848310, 0xB), (5, 0x00010085820D, 0x000100858310, 0xD),
            (6, 0x00010086820F, 0x000100868310, 0xF), (7, 0x000100878201, 0x000100878310, 0x1)] :
          List (BitVec 3 × Nat × Nat × Nibble)),
      (ran awake v.2.1).map (fun t => (rd t.link v.1, t.niax)) = some (v.2.2.2, 0)
        ∧ (ran { awake with link := wr State.reset.link v.1 v.2.2.2 } v.2.2.1).map (fun t => (rd t.link v.1, t.niax))
            = some (v.2.2.2, v.2.2.2) := by decide

/-! ### Scheduler and error trap (T8, sections 2.14, 2.15) -/

/-- Section 2.14: one click step from each click of the round, Ethernet and IOP woken, display disabled. -/
theorem test_schedule :
    ([4, 0, 1, 2, 3] : List (Fin 5)).map (fun c => (clickStep { awake with
        curTask := .emulator, click := c, wake := wr (wr State.reset.wake 2 true) 5 true }).curTask)
      = [.ethernet, .emulator, .ethernet, .iop, .emulator] := by decide

/-- Section 2.14: the display-or-refresh phase. -/
theorem test_display_or_refresh :
    [true, false].map (fun b => (clickStep { awake with
        curTask := .emulator, click := 3, wake := wr (wr State.reset.wake 1 true) 3 true,
        inputs := { EnvInputs.quiet with displayEnabled := b } }).curTask) = [.display, .refresh] := by decide

/-- Section 2.14: the modifier is saved on a switch. -/
theorem test_modifier_saved :
    (ran { awake with curTask := .emulator, cycle := .c3, click := 4, wake := wr State.reset.wake 2 true } 0x012104188001).map
        (fun t => (t.curTask, t.click, rd t.tc 0, t.niax)) = some (.ethernet, 0, 1, 0) := by decide

/-- T8: the boundary after `ExitKernel`, and without it (T7). -/
theorem test_kernel_exit :
    [(true, false), (true, true), (false, true)].map (fun p => (ran { awake with
        cycle := .c3, kernelExit := p.1, wake := wr State.reset.wake 4 p.2 } 0x000100888000).map (fun t => t.curTask))
      = [some .emulator, some .disk, some .kernel] := by decide

/-- Section 2.15: an underflow raised by the Emulator in cycles 1, 2 and 3, and the boundary at which the trap fires. -/
theorem test_trap :
    [Cycle.c1, .c2, .c3].map (fun c => (ran { awake with curTask := .emulator, cycle := c } 0x0001008E8000).map
        (fun t => (t.errSet, t.stackP, t.trapCount)))
      = [some (causes false true false, 15, 1), some (causes false true false, 15, 1), some (causes false true false, 15, 1)]
    ∧ (ran { awake with curTask := .emulator, cycle := .c3, trapCount := 1, errSet := causes false true false }
        0x000104388203).map (fun t => (rd t.tpc 0, t.trapCount, t.errSet, t.niax, t.pendKind))
      = some (0x000, 0, causes false true false, 0, .plain)
    ∧ (ran { awake with cycle := .c3, trapCount := 1 } 0x000100888203).map (fun t => (rd t.tpc 7, t.trapCount))
      = some (0x203, 1) := by decide

/-- Section 2.15: two causes in one instruction, and a second cause while a trap is pending. -/
theorem test_two_causes :
    (ran awake 0x0001038EC000).map (fun t => (t.errSet, t.errSet.errCode, t.trapCount, t.ibEmptyLatch))
      = some (causes false true true, some 2, 1, true)
    ∧ (ran { awake with errSet := causes false false true, trapCount := 2 } 0x0001008E8000).map (fun t =>
        (t.errSet, t.errSet.errCode, t.trapCount)) = some (causes false true true, some 2, 2) := by decide

/-! ### The step and its environment -/

/-- R370: the waiting machine does nothing. -/
theorem test_waits : step State.reset = .next State.reset := rfl

/-- R451, R371: the first WakeTask starts it; the first fetch is `CS[0]`. -/
theorem test_wake :
    (match step { State.reset with script := [⟨[.wakeTask .kernel], EnvInputs.quiet⟩] } with
        | .next t => (t.waiting, rd t.wake 7, t.curTask, fetch t)
        | _ => (true, false, .emulator, 0)) = (false, true, .kernel, 0x000100888000) := by decide

/-- R62, R74, R450: the acts of the environment. -/
theorem test_environment :
    csRead (applyActs [.csWrite 0x123 0xABCDEF012345] awake) 0x123 = 0xABCDEF012345
    ∧ rd (applyActs [.tpcWriteHigh .disk 0xF3, .tpcWriteLow .disk 0x45] awake).tpc 4 = 0x345
    ∧ rd (applyActs [.wakeTask .disk, .sleepTask .disk] awake).wake 4 = false
    ∧ (applyActs [.csWrite 0x123 0xABCDEF012345, .reset] (withR [(1, 0x1111)] awake)).cs = [(0x123, 0xABCDEF012345)]
    ∧ rd (applyActs [.reset] (withR [(1, 0x1111)] awake)).r 1 = 0 := by decide

/-- The host's two probes on one word: the decoder reads its row, and the step runs it first. -/
theorem test_probe :
    (decodeTableWord 48 0x000100F88000).map Instr.rowIx = some 69
    ∧ (decodeTableWord 48 0x00000C000000).map Instr.rowIx = some 102
    ∧ (ran State.reset 0x00000C000000).isSome = true := by decide

/-! ### Witnesses: for each statement of Certificates/Slice0/Obligations.lean with hypotheses, a state and operands that meet
them, each clause at a boundary of its range -/

/-- A microinstruction that codes no buffer load runs everywhere. -/
theorem runs_of_all {l : List Instr} {s : State} (h : l.all (fun i => !i.micro.ibLoad) = true) : ∀ i ∈ l, Runs i.micro s :=
  fun i hi => runs_of_not_ibLoad (by simpa using List.all_eq_true.mp h i hi)

/-- An idle microinstruction with a Y and a Z plane. -/
def planes (y : YOp) (z : ZOp) : Micro := { Micro.idle with planes := .yz y z }

/-- The state where a buffer load also runs: Empty, then Byte. -/
theorem witness_runs_ibLoad :
    Runs (planes (.norm .ibLoad) (.norm .lrot0)) awake
      ∧ Runs (planes (.norm .ibLoad) (.norm .lrot0)) (withIb 0 0 .byte awake) :=
  ⟨fun _ => ⟨rfl, rfl, .inl rfl⟩, fun _ => ⟨rfl, rfl, .inr rfl⟩⟩

theorem reset_inv : State.reset.Inv :=
  ⟨rfl, rfl, Nat.zero_le _, fun _ => ⟨rfl, rfl, rfl⟩, by decide, fun _ => ⟨rfl, rfl, rfl, rfl⟩⟩

theorem awake_inv : awake.Inv :=
  ⟨rfl, rfl, Nat.zero_le _, fun _ => ⟨rfl, rfl, rfl⟩, by decide, fun h => absurd h (by decide)⟩

/-- A running and a waiting state of the invariant, each with its step. -/
theorem witness_StepKeepsTheInvariant :
    (awake.Inv ∧ ∃ t, step awake = .next t) ∧ (State.reset.Inv ∧ ∃ t, step State.reset = .next t) :=
  ⟨⟨awake_inv, _, rfl⟩, reset_inv, _, rfl⟩

theorem witness_DecodeRows :
    Instr.xPush { Micro.idle with x := .push } ∈ decodeRows 0x0001008F8000
      ∧ WellFormed (.xPush { Micro.idle with x := .push }) = true ∧ encode (.xPush { Micro.idle with x := .push }) = 0x0001008F8000 := by
  decide

theorem witness_DecoderFollowsTheOpcodeTable :
    (Instr.xPush Micro.idle).pattern.selects 0x0001008F8000 = true ∧ (Instr.zPush Micro.idle).pattern.selects 0x000100886000 = true
      ∧ (Instr.dest7SingleLeft true Micro.idle).pattern.selects 0x2583008B8000 = true := by decide

theorem witness_StepRunsTheDecodedInstruction :
    (awake.waiting = false ∧ WellFormed (.xNoop Micro.idle) = true
        ∧ encode (.xNoop Micro.idle) = csRead awake (rd awake.tpc awake.curTask.id))
      ∧ State.reset.waiting = true ∧ State.reset.script = [] := by decide

theorem witness_RowsOfAWordShareOneMeaning :
    Instr.xPush { Micro.idle with x := .push } ∈ decodeRows 0x0001008F8000
      ∧ Instr.dest1NONE { Micro.idle with x := .push } ∈ decodeRows 0x0001008F8000 := by decide

theorem witness_SourceRows :
    (∀ i ∈ ([.srcAQ Micro.idle, .srcAB Micro.idle, .src0Q Micro.idle, .src0B Micro.idle, .src0A Micro.idle, .srcDA Micro.idle,
        .srcDQ Micro.idle, .srcD0 Micro.idle] : List Instr), Runs i.micro awake)
      ∧ addressLoadMode (Micro.idle.withSrc .dz) awake = false ∧ Micro.idle.aF = .add
      ∧ effCin (Micro.idle.withSrc .dz) awake = false :=
  ⟨runs_of_all (by decide), by decide⟩

/-- In and out of address-load mode. -/
theorem witness_FunctionRows :
    (∀ i ∈ ([.fnADD Micro.idle, .fnSUBR Micro.idle, .fnSUBS Micro.idle, .fnOR Micro.idle, .fnAND Micro.idle, .fnNOTRS Micro.idle,
        .fnXOR Micro.idle, .fnXNOR Micro.idle] : List Instr), Runs i.micro awake)
      ∧ addressLoadMode (Micro.idle.withFn .xnor) awake = false
      ∧ addressLoadMode (Micro.idle.withMem.withFn .add) awake = true :=
  ⟨runs_of_all (by decide), by decide⟩

/-- The last function code of the first half, the first of the second. -/
theorem witness_AddressLoadForcesTheTopByte :
    addressLoadMode (Micro.idle.withMem.withFn .or) awake = true ∧ AluFn.or.code.toNat = 3
      ∧ addressLoadMode (Micro.idle.withMem.withFn .and) awake = true ∧ AluFn.and.code.toNat = 4
      ∧ addressLoadMode (Micro.idle.withMem.withFn .or) { awake with cycle := .c2 } = false := by decide

/-- Two cycles with different functions, registers and operands, the same half, top byte and carry-in. -/
theorem witness_AddressLoadCarriesIgnoreTheOperands :
    ∀ m ∈ [{ Micro.idle.withMem with rA := 1, rB := 2, aS := .ab, aF := .add }],
    ∀ n ∈ [{ Micro.idle.withMem with rA := 3, rB := 4, aS := .za, aF := .or }],
    ∀ s ∈ [withR [(1, 0x0011), (2, 0x12FF)] awake], ∀ t ∈ [withR [(3, 0x0700), (4, 0x1200)] awake],
      addressLoadMode m s = true ∧ addressLoadMode n t = true ∧ s.params.addrLoadHi = t.params.addrLoadHi
        ∧ (m.aF.code.toNat < 4 ↔ n.aF.code.toNat < 4)
        ∧ (rd s.r m.rB).extractLsb' 8 8 = (rd t.r n.rB).extractLsb' 8 8 ∧ effCin m s = effCin n t := by decide

theorem witness_WriteBackRows :
    (∀ i ∈ ([.dest0Q Micro.idle, .dest1NONE Micro.idle, .dest2BA Micro.idle, .dest3B Micro.idle, .dest4DoubleRight false Micro.idle,
        .dest5SingleRight true Micro.idle, .dest6DoubleLeft false Micro.idle, .dest7SingleLeft true Micro.idle, .xShift Micro.idle,
        .xCycle Micro.idle] : List Instr), Runs i.micro awake)
      ∧ awake.params.shiftEnds = .specTable ∧ (15 : BitVec 4) ≠ Micro.idle.rB :=
  ⟨runs_of_all (by decide), by decide⟩

/-- The override coded in X; in Z with the raw bit 1; in Z with the raw bit 0, where it is none. -/
theorem witness_CarryInRowsComplete :
    (∀ i ∈ ([.cin0 Micro.idle, .cin1 Micro.idle, .xCinPc16 Micro.idle, .zCinPc16 (Micro.idle.withCin true),
        .zCinPc16 Micro.idle] : List Instr), Runs i.micro awake)
      ∧ (Instr.xCinPc16 Micro.idle).micro.x = .cinPc16
      ∧ ((Instr.zCinPc16 (Micro.idle.withCin true)).micro.planes.z? = some (.norm .cinPc16)
          ∧ (Instr.zCinPc16 (Micro.idle.withCin true)).micro.cin = true)
      ∧ ¬ ((Instr.zCinPc16 Micro.idle).micro.x = .cinPc16
          ∨ ((Instr.zCinPc16 Micro.idle).micro.planes.z? = some (.norm .cinPc16)
              ∧ (Instr.zCinPc16 Micro.idle).micro.cin = true)) :=
  ⟨runs_of_all (by decide), by decide⟩

theorem witness_ParityBitIsNeverRead : Runs Micro.idle awake := runs_of_not_ibLoad rfl

/-- The lowest and the highest SU address, stack and direct. -/
theorem witness_SuRows :
    (∀ i ∈ ([.suWriteAQ Micro.idle, .suWriteAB Micro.idle, .suWrite0Q Micro.idle, .suWrite0B Micro.idle, .suWrite0A Micro.idle,
        .suReadDA Micro.idle, .suReadDQ Micro.idle, .suReadD0 Micro.idle] : List Instr), Runs i.micro awake)
      ∧ suAddr (Instr.suWriteAQ Micro.idle).micro awake = 0x00
      ∧ suAddr (Instr.suWriteAQ { planes (.norm .noop) (.uaddr 15) with rA := 15 }).micro awake = 0xFF
      ∧ (0xFE : Byte) ≠ 0xFF ∧ Micro.idle.const? = none ∧ Micro.idle.rotAmount = none ∧ Micro.idle.input? = none :=
  ⟨runs_of_all (by decide), by decide⟩

theorem witness_LiteralRowsComplete :
    Runs (Micro.idle.withZ (.nibble 15)) awake ∧ ¬ EmulatorClickEnd awake ∧ Micro.idle.planes.y? = some (.norm .noop) :=
  ⟨runs_of_not_ibLoad rfl, fun h => absurd h.1 (by decide), rfl⟩

theorem witness_InputRows :
    (∀ i ∈ ([.zEIData Micro.idle, .zEStatus Micro.idle, .zKIData Micro.idle, .zKStatus Micro.idle, .zMStatus Micro.idle,
        .zKTest Micro.idle, .zIOPIData Micro.idle, .zIOPStatus Micro.idle, .zKStrobe Micro.idle, .zEStrobe Micro.idle,
        .zErrIBStk Micro.idle, .zRH Micro.idle] : List Instr), Runs i.micro awake)
      ∧ awake.errSet = ErrSet.empty ∧ Micro.idle.clrIntErr = false :=
  ⟨runs_of_all (by decide), by decide⟩

/-- Two causes signaled: the smaller one is the one read. -/
theorem witness_StatusReadRowsComplete :
    (causes false true true).has .stackOverUnderflow = true
      ∧ ∀ d ∈ [Cause.controlStoreParity, .memoryFault, .stackOverUnderflow, .ibEmpty], (causes false true true).has d = true →
          (causeCode .stackOverUnderflow).toNat ≤ (causeCode d).toNat := by decide

/-- Empty in cycle 1, not Empty before cycle 3, and Full with a dispatch coded beside the peek. -/
theorem witness_PeekRowsComplete :
    (∀ i ∈ ([.zIbNA Micro.idle, .zIb Micro.idle, .zIbLow Micro.idle, .zIbHigh Micro.idle] : List Instr),
        Runs i.micro awake ∧ i.micro.ibLoad = false)
      ∧ (awake.ibPtr = .empty ∧ awake.cycle = .c1)
      ∧ ((withIb 1 2 .byte awake).ibPtr ≠ .empty ∧ (withIb 1 2 .byte awake).cycle ≠ .c3)
      ∧ ((Instr.zIbNA (planes (.norm .ibDisp) (.norm .noop))).micro.planes.y? = some (.norm .ibDisp)
          ∧ (withIb 1 2 .full awake).ibPtr = .full) :=
  ⟨fun i hi => ⟨runs_of_all (by decide) i hi, by revert i; decide⟩, by decide⟩

/-- The rotate in place: `rA = rB = 15`, D0, ADD, write-back code 3. -/
theorem witness_RotateRowsComplete :
    ∀ m ∈ [{ Micro.idle with rA := 15, rB := 15, aS := .dz, aF := .add, aD := .b }],
      (∀ i ∈ ([.zLRot0 m, .zLRot12 m, .zLRot8 m, .zLRot4 m] : List Instr),
        i.micro.ibLoad = false ∧ m.aS = .dz ∧ m.aF = .add ∧ i.micro.dest = .b ∧ m.rB = m.rA ∧ effCin i.micro awake = false
          ∧ addressLoadMode i.micro awake = false) := by decide

theorem witness_UAddressAndRhLoadRowsComplete :
    Runs (Micro.idle.withZ (.uaddr 15)) awake ∧ Runs (Micro.idle.withX .rhLoad) awake
      ∧ (∀ lo, Micro.idle.planes.z? ≠ some (.uaddr lo)) ∧ (15 : BitVec 4) ≠ Micro.idle.rB :=
  ⟨runs_of_not_ibLoad rfl, runs_of_not_ibLoad rfl, by decide, by decide⟩

/-- A crossing load, a load that stays in the page, a mapped load. -/
theorem witness_AddressLoadInCycleOne :
    awake.cycle = .c1 ∧ Runs Micro.idle.withMem awake
      ∧ (∀ m ∈ [{ Micro.idle with rA := 1, aS := .za, aF := .subr }],
          m.mapLoad = false ∧ (aluOut m.withMem awake).flags.pageCarry ≠ m.aF.code.getLsbD 0)
      ∧ (Micro.idle.mapLoad = false ∧ (aluOut Micro.idle.withMem awake).flags.pageCarry = Micro.idle.aF.code.getLsbD 0)
      ∧ (planes (.norm .map) (.norm .noop)).mapLoad = true :=
  ⟨rfl, runs_of_not_ibLoad rfl, by decide, by decide, rfl⟩

theorem witness_DataLoadInCycleTwo :
    ∀ s ∈ [{ awake with cycle := .c2 }], s.cycle = .c2 ∧ Runs Micro.idle.withMem s
      ∧ (s.pageCrossLatch = false ∧ s.ibEmptyLatch = false)
      ∧ { s with pageCrossLatch := true }.pageCrossLatch = true ∧ { s with ibEmptyLatch := true }.ibEmptyLatch = true :=
  fun s hs => by
    rw [List.mem_singleton.mp hs]
    exact ⟨rfl, runs_of_not_ibLoad rfl, ⟨rfl, rfl⟩, rfl, rfl⟩

theorem witness_DataReadInCycleThree :
    ∀ s ∈ [{ awake with cycle := .c3 }], s.cycle = .c3 ∧ Runs Micro.idle.withMem s
      ∧ (Micro.idle.const? = none ∧ Micro.idle.input? = none ∧ Micro.idle.rotAmount = none ∧ Micro.idle.suRead = false)
      ∧ (rd s.inputs.data s.curTask.id).valid = true
      ∧ (rd (Vector.replicate (2 ^ 3) (⟨0, false⟩ : DataAnswer)) s.curTask.id).valid = false :=
  fun s hs => by
    rw [List.mem_singleton.mp hs]
    exact ⟨rfl, runs_of_not_ibLoad rfl, by decide, by decide, by decide⟩

theorem witness_MemRowsFollowTheCycle : Runs Micro.idle.withMem awake := runs_of_not_ibLoad rfl

/-- Each cycle of the Kernel and boundary clauses. -/
theorem witness_cycles :
    awake.cycle = .c1 ∧ { awake with cycle := .c2 }.cycle = .c2 ∧ { awake with cycle := .c2 }.cycle ≠ .c1
      ∧ { awake with cycle := .c2 }.cycle ≠ .c3 ∧ { awake with cycle := .c3 }.cycle = .c3 ∧ (0 : BitVec 3) ≠ 7 := by decide

theorem awake_not_emulatorClickEnd : ¬ EmulatorClickEnd awake := fun h => absurd h.1 (by decide)

/-- The state at the end of an Emulator click, with the countdown at `n`. -/
def lastOfClick (n : Nat) : State := { awake with curTask := .emulator, cycle := .c3, trapCount := n }

theorem lastOfClick_emulatorClickEnd (n : Nat) : EmulatorClickEnd (lastOfClick n) := ⟨rfl, rfl⟩

theorem witness_KernelRowsComplete : awake.cycle = .c1 ∧ { awake with cycle := .c3 }.cycle = .c3 := by decide

theorem witness_InterruptRowsComplete :
    ({ awake with trapCount := 2 }.trapCount ≠ 0 ∧ ¬ EmulatorClickEnd { awake with trapCount := 2 })
      ∧ ((lastOfClick 1).trapCount ≠ 0 ∧ EmulatorClickEnd (lastOfClick 1))
      ∧ (causes true false true).has .memoryFault = true :=
  ⟨⟨by decide, fun h => absurd h.1 (by decide)⟩, ⟨by decide, lastOfClick_emulatorClickEnd 1⟩, rfl⟩

theorem witness_StackLoadAndMapRowsComplete :
    (Micro.idle.withMem.mem = true ∧ awake.cycle = .c1) ∧ ¬ (Micro.idle.mem = true ∧ awake.cycle = .c1)
      ∧ ¬ (Micro.idle.withMem.mem = true ∧ { awake with cycle := .c2 }.cycle = .c1) := by decide

/-- The Z-plane strobe alone, and beside the Y-plane strobe; neither codes a Kernel operation. -/
theorem witness_RequestAndRefreshRowsComplete :
    (∀ m ∈ [Micro.idle, planes (.norm .refresh) (.norm .noop)],
        Runs (m.withZ (.norm .refresh)) awake ∧ (m.withZ (.norm .refresh)).enterKernel = false
          ∧ (m.withZ (.norm .refresh)).exitKernel = false) :=
  fun m hm => ⟨runs_of_not_ibLoad (by revert m; decide), by revert m; decide⟩

/-- Every premise of the three clauses at once: the idle word, in cycle 1, with and without a memory operation. -/
theorem witness_IdleAndReservedRowsComplete :
    (Runs (Micro.idle.withX .noop) awake ∧ Runs (Micro.idle.withZ (.norm .noop)) awake ∧ ¬ EmulatorClickEnd awake)
      ∧ (∀ n ∈ [Micro.idle.withX .noop, Micro.idle.withY (.norm .noop), Micro.idle.withZ (.norm .noop)],
          n.cinToggle = false ∧ n.pushCount = 0 ∧ n.popCount = 0 ∧ n.loadStackP = false ∧ n.alwaysDisp = false
            ∧ n.peeks = false ∧ n.zNormIs .refresh = false ∧ n.yNormIs .refresh = false ∧ n.yNormIs .ibDisp = false
            ∧ n.ibLoad = false ∧ n.planes = .yz (.norm .noop) (.norm .noop) ∧ n.mem = false)
      ∧ (Micro.idle.withMem.withY (.norm .noop)).mem = true ∧ awake.cycle = .c1
      ∧ ErrSet.has (causes true false true) .memoryFault = true :=
  ⟨⟨runs_of_not_ibLoad rfl, runs_of_not_ibLoad rfl, awake_not_emulatorClickEnd⟩, by decide, rfl, rfl, rfl⟩

theorem witness_DeviceWriteRowsComplete :
    (Instr.yIOPOData Micro.idle).micro.peekAdvances = false ∧ (Instr.yIOPOData Micro.idle).micro.alwaysDisp = false := by decide

/-- An ordinary cycle, a cycle 3 of another task, a cycle 2 of the Emulator. -/
theorem witness_BranchAndDispatchRowsComplete :
    ¬ EmulatorClickEnd awake ∧ ¬ EmulatorClickEnd { awake with cycle := .c3 }
      ∧ ¬ EmulatorClickEnd { awake with curTask := .emulator, cycle := .c2 } :=
  ⟨awake_not_emulatorClickEnd, fun h => absurd h.1 (by decide), fun h => absurd h.2 (by decide)⟩

/-- A call (`goto=0x00F`) and a return (`goto=0x010`). -/
theorem witness_LinkRowsComplete :
    (∀ i ∈ ([.xLink0 Micro.idle, .xLink1 Micro.idle, .xLink2 Micro.idle, .xLink3 Micro.idle, .xLink4 Micro.idle, .xLink5 Micro.idle,
        .xLink6 Micro.idle, .xLink7 Micro.idle] : List Instr), Runs i.micro awake)
      ∧ (nextAddr (Instr.xLink7 { Micro.idle with inia := 0x00F }).micro awake).getLsbD 4 = false
      ∧ (nextAddr (Instr.xLink7 { Micro.idle with inia := 0x010 }).micro awake).getLsbD 4 = true ∧ (0 : BitVec 3) ≠ 7 :=
  ⟨runs_of_all (by decide), by decide⟩

/-- Every merge rule, and the trap that overrides them. -/
theorem witness_NextAddressFollowsTheMergeRule :
    (∀ k ∈ [PendKind.plain, .ibDisp 0xFF, .refill true true], ∀ n ∈ [0, 1],
        ∃ t, exec (.gotoInia 0xFFF Micro.idle) { awake with pendKind := k, trapCount := n } = .next t)
      ∧ Runs (Micro.idle.withInia 0xFFF) awake ∧ ¬ EmulatorClickEnd awake ∧ awake.pendKind = .plain :=
  ⟨fun _ _ _ _ => ⟨_, exec_of_runs (runs_of_not_ibLoad rfl)⟩, runs_of_not_ibLoad rfl, awake_not_emulatorClickEnd, rfl⟩

theorem witness_BufferIsAByteQueue :
    (IbData.mk 0x12 0x3456 .empty).ptr = .empty ∧ (IbData.mk 0x12 0x3456 .byte).ptr = .byte
      ∧ (IbData.mk 0x12 0x3456 .full).ptr ≠ .empty := by decide

theorem witness_BufferLoadRowCompletes :
    (Micro.idle.withY (.norm .ibLoad)).alwaysDisp = false ∧ (Micro.idle.withY (.norm .ibLoad)).peekAdvances = false
      ∧ awake.ibPtr = .empty ∧ (withIb 0x12 0 .byte awake).ibPtr = .byte := by decide

/-- Full; Empty with the override; Byte without it, with and without an advancing peek. -/
theorem witness_DispatchRequestRowsComplete :
    (withIb 1 2 .full awake).ibPtr = .full
      ∧ ((planes (.norm .noop) (.norm .alwaysIBDisp)).withY (.norm .ibDisp)).alwaysDisp = true
      ∧ ¬ ((withIb 1 2 .byte awake).ibPtr = .full ∨ (Micro.idle.withY (.norm .ibDisp)).alwaysDisp = true)
      ∧ (Micro.idle.withY (.norm .ibDisp)).peeks = false
      ∧ ((planes (.norm .noop) (.input .ib)).withY (.norm .ibDisp)).peekAdvances = true
      ∧ awake.cycle ≠ .c3 ∧ awake.ibPtr = .empty ∧ (Micro.idle.withZ (.norm .alwaysIBDisp)).ibLoad = false
      ∧ (∃ t, exec (.yIBDisp Micro.idle) { awake with cycle := .c3 } = .next t ∧ t.curTask = awake.curTask)
      ∧ awake.curTask ≠ .emulator :=
  ⟨by decide, by decide, by decide, by decide, by decide, by decide, by decide, by decide,
    ⟨_, exec_of_runs (runs_of_not_ibLoad rfl), by decide⟩, by decide⟩

/-- Direct load; push; single, double and triple pop, at the edges of their tests. -/
theorem witness_StackPointerRule :
    (∃ t, exec (.yStackPLoad Micro.idle) awake = .next t) ∧ (Instr.yStackPLoad Micro.idle).micro.loadStackP = true
      ∧ (∃ t, exec (.xPush Micro.idle) { awake with stackP := 15 } = .next t)
      ∧ (Instr.xPush Micro.idle).micro.loadStackP = false ∧ 0 < (Instr.xPush Micro.idle).micro.pushCount
      ∧ (Instr.xPop Micro.idle).micro.popCount = 1
      ∧ (Instr.xPop (planes (.norm .pop) (.norm .noop))).micro.popCount = 2
      ∧ (Instr.xPop (planes (.norm .pop) (.norm .pop))).micro.popCount = 3 :=
  ⟨⟨_, exec_of_runs (runs_of_not_ibLoad rfl)⟩, by decide, ⟨_, exec_of_runs (runs_of_not_ibLoad rfl)⟩, by decide, by decide,
    by decide, by decide, by decide⟩

theorem witness_StackRowsComplete :
    (∀ i ∈ ([.xPush Micro.idle, .yPush Micro.idle, .zPush Micro.idle, .xPop Micro.idle, .yPop Micro.idle, .zPop Micro.idle] :
        List Instr), Runs i.micro awake)
      ∧ ((Instr.yPush Micro.idle).micro.popCount = 0 ∧ (Instr.yPush Micro.idle).micro.loadStackP = false
          ∧ { awake with stackP := 15 }.stackP = 15)
      ∧ ((Instr.yPop Micro.idle).micro.pushCount = 0 ∧ (Instr.yPop Micro.idle).micro.popCount = 1
          ∧ (Instr.yPop Micro.idle).micro.loadStackP = false ∧ awake.stackP = 0) :=
  ⟨runs_of_all (by decide), by decide⟩

/-- A raising cycle that ends no Emulator click. -/
theorem witness_RaiseRecordsAndSchedules :
    (∃ t, exec (.xPop Micro.idle) awake = .next t) ∧ awake.trapCount = 0 ∧ { awake with trapCount := 2 }.trapCount ≠ 0
      ∧ cycleRaises (Instr.xPop Micro.idle).micro awake = [.stackOverUnderflow] ∧ ¬ EmulatorClickEnd awake :=
  ⟨⟨_, exec_of_runs (runs_of_not_ibLoad rfl)⟩, rfl, by decide, by decide, awake_not_emulatorClickEnd⟩

/-- The countdown after the raises is 0; 1, pending or just raised; 2. -/
theorem witness_ErrorTrapIsTakenByTheEmulator :
    (∀ n ∈ [0, 1, 2], EmulatorClickEnd (lastOfClick n) ∧ ∃ t, exec (.xNoop Micro.idle) (lastOfClick n) = .next t)
      ∧ (∃ t, exec (.xPop Micro.idle) awake = .next t) ∧ ¬ EmulatorClickEnd awake
      ∧ (∃ t, exec (.xNoop Micro.idle) (lastOfClick 2) = .next t ∧ t.curTask = .emulator)
      ∧ (cycleRaises (Instr.xPop Micro.idle).micro awake).head? = some .stackOverUnderflow :=
  ⟨fun n _ => ⟨lastOfClick_emulatorClickEnd n, _, exec_of_runs (runs_of_not_ibLoad rfl)⟩,
    ⟨_, exec_of_runs (runs_of_not_ibLoad rfl)⟩, awake_not_emulatorClickEnd,
    ⟨_, exec_of_runs (runs_of_not_ibLoad rfl), by decide⟩, by decide⟩

/-- Before the boundary; at it with the Kernel kept; at it with a switch. -/
theorem witness_TasksSwitchOnlyAtClickBoundaries :
    (∃ t, exec (.xNoop Micro.idle) awake = .next t) ∧ awake.cycle ≠ .c3
      ∧ (∃ t, exec (.xNoop Micro.idle) { awake with cycle := .c3 } = .next t ∧ t.curTask = awake.curTask)
      ∧ (∃ t, exec (.xNoop Micro.idle) { awake with cycle := .c3, kernelExit := true } = .next t ∧ t.curTask ≠ awake.curTask)
      ∧ ¬ EmulatorClickEnd { awake with cycle := .c3, kernelExit := true } ∧ ¬ EmulatorClickEnd { awake with cycle := .c3 } :=
  ⟨⟨_, exec_of_runs (runs_of_not_ibLoad rfl)⟩, by decide, ⟨_, exec_of_runs (runs_of_not_ibLoad rfl), by decide⟩,
    ⟨_, exec_of_runs (runs_of_not_ibLoad rfl), by decide⟩, fun h => absurd h.1 (by decide), fun h => absurd h.1 (by decide)⟩

/-- An empty control store never codes `ExitKernel`; one step and three steps run, with the script empty and with a reset, a wake
and a sleep coming. -/
theorem witness_KernelKeepsTheProcessor :
    ∀ l ∈ [[], [{ acts := [.wakeTask .disk, .reset, .sleepTask .kernel], answers := EnvInputs.quiet }]],
      { awake with script := l }.curTask = .kernel ∧ { awake with script := l }.kernelExit = false
        ∧ neverExits { awake with script := l } ∧ scriptLeavesStore { awake with script := l }.script = true
        ∧ (∃ t, step { awake with script := l } = .next t) ∧ ∃ t, Sys2Proof.core.run 3 { awake with script := l } = .next t := by
  intro l hl
  refine ⟨rfl, rfl, fun _ => (by decide : (decodeMicro csFill).exitKernel = false), ?_⟩
  simp only [List.mem_cons, List.not_mem_nil, or_false] at hl
  rcases hl with rfl | rfl <;> exact ⟨rfl, ⟨_, rfl⟩, _, rfl⟩

theorem witness_ControlStoreIsWrittenOnlyFromOutside :
    scriptLeavesStore awake.script = true ∧ (∃ t, step awake = .next t) ∧ (∃ t, Sys2Proof.core.run 3 awake = .next t)
      ∧ Memory.wf awake.cs = true :=
  ⟨rfl, ⟨_, rfl⟩, ⟨_, rfl⟩, rfl⟩

/-- Two different tasks; a script whose next entry is a reset. -/
theorem witness_EnvironmentPortsFollowTheRules :
    Task.emulator ≠ Task.kernel
      ∧ { awake with script := [{ acts := [.reset], answers := EnvInputs.quiet }] }.script
          = [{ acts := [.reset], answers := EnvInputs.quiet }] := ⟨by decide, rfl⟩

/-- A cycle that writes nothing: every clause of the two frames applies at once. -/
theorem witness_Frames :
    (∃ t, exec (.xNoop Micro.idle) awake = .next t)
      ∧ (∀ m ∈ [(Instr.xNoop Micro.idle).micro],
          m.dest = .none ∧ m.suWrite = false ∧ m.x ≠ .rhLoad ∧ m.x ≠ .link 0 ∧ m.pushCount = 0 ∧ m.popCount = 0
            ∧ m.loadStackP = false ∧ m.cinToggle = false ∧ m.ibLoad = false ∧ m.peekAdvances = false
            ∧ m.ibDispRequest = false ∧ m.exitKernel = false ∧ m.enterKernel = false ∧ m.clrIntErr = false
            ∧ m.yNormIs .mesaIntRq = false ∧ cycleRaises m awake = [])
      ∧ Task.emulator ≠ awake.curTask ∧ awake.cycle ≠ .c3 ∧ { awake with cycle := .c2 }.cycle = .c2
      ∧ ¬ EmulatorClickEnd awake :=
  ⟨⟨_, exec_of_runs (runs_of_not_ibLoad rfl)⟩, by decide, by decide, by decide, by decide, awake_not_emulatorClickEnd⟩

theorem witness_EventsAndFlagsAreNotReadBack : ∃ t, exec (.yRefresh Micro.idle) awake = .next t :=
  ⟨_, exec_of_runs (runs_of_not_ibLoad rfl)⟩

end Sys2Proof.Tests
end

section
/-! SUPPORT. The proofs of the statements about the state as a whole: the reset values, the invariant, the control store, the
frames of every instruction, and that the stored flags and the event log are never read back. -/

namespace Sys2Proof.Machine

/-! ### Where a cycle leaves the sequencing state -/

section CycleEnd

variable (m : Micro) (s : State)

/-- Cycles 1, 2, 3 and 1 again (49_cycle_click_tasks.md R374). -/
theorem cycleNext_cycle :
    (cycleNext m s).cycle = (match s.cycle with
      | .c1 => .c2
      | .c2 => .c3
      | .c3 => .c1) := by
  cases hc : s.cycle with
  | c1 => rw [cycleNext_of_ne_c3 m s (by simp [hc])]; simp [hc]
  | c2 => rw [cycleNext_of_ne_c3 m s (by simp [hc])]; simp [hc]
  | c3 => rw [cycleNext_of_c3 m s hc]; simp

/-- A click starts only after a cycle 3. -/
theorem cycle_eq_c3_of_cycleNext_c1 (h : (cycleNext m s).cycle = .c1) : s.cycle = .c3 := by
  rw [cycleNext_cycle] at h
  cases hc : s.cycle with
  | c1 => simp [hc] at h
  | c2 => simp [hc] at h
  | c3 => rfl

/-- The latches and the exit signal are clear when a click starts (R380, R381). -/
theorem cycleNext_latches_of_c3 (h : s.cycle = .c3) :
    (cycleNext m s).pageCrossLatch = false ∧ (cycleNext m s).ibEmptyLatch = false ∧ (cycleNext m s).kernelExit = false := by
  rw [cycleNext_of_c3 m s h]
  simp

theorem cycleNext_curTask_of_ne_c3 (h : s.cycle ≠ .c3) : (cycleNext m s).curTask = s.curTask := by
  rw [cycleNext_of_ne_c3 m s h]
  simp

theorem cycleNext_kernelExit_of_ne_c3 (h : s.cycle ≠ .c3) :
    (cycleNext m s).kernelExit = (s.kernelExit || exitNow m s) := by
  rw [cycleNext_of_ne_c3 m s h]
  simp

theorem cycleNext_tc_of_ne_c3 (h : s.cycle ≠ .c3) : (cycleNext m s).tc = s.tc := by
  rw [cycleNext_of_ne_c3 m s h]
  simp

/-- Only cycle 1 sets a latch: the page-cross test and the latched peek both ask for it (R43, R44). -/
theorem cycleNext_latches_of_c2 (h : s.cycle = .c2) :
    (cycleNext m s).pageCrossLatch = s.pageCrossLatch ∧ (cycleNext m s).ibEmptyLatch = s.ibEmptyLatch := by
  rw [cycleNext_of_ne_c3 m s (by simp [h])]
  simp [pageCrossNow, addressLoadMode, h]

/-- A task other than the current one keeps its saved modifier. -/
theorem cycleNext_tc_other (k : Task) (h : k ≠ s.curTask) : rd (cycleNext m s).tc k.id = rd s.tc k.id := by
  by_cases hc : s.cycle = .c3
  · obtain ⟨_, ⟨_, htc, _⟩ | ⟨_, htc, _⟩⟩ := cycleNext_boundary m s hc
    · rw [htc]
    · rw [htc, rd_wr_of_ne _ _ (fun e => h (Task.id_injective _ _ e))]
  · rw [cycleNext_tc_of_ne_c3 m s hc]

/-- A countdown of at most 2 stays so: a raise starts it at 1 or 2, and the click step only lowers it. -/
theorem cycleNext_trapCount_le (h : s.trapCount ≤ 2) : (cycleNext m s).trapCount ≤ 2 := by
  have hr : raisedCount m s ≤ 2 := by
    rw [raisedCount_eq]
    split_ifs
    · exact h
    · split
      · exact TrapDelay.count_le _
      · exact Nat.zero_le 2
  rw [cycleNext_trapCount]
  split_ifs
  · exact (Nat.sub_le _ _).trans hr
  · exact hr

/-- No cycle signals the parity cause (60_exceptions.md R402). -/
theorem cycleNext_noParity (h : s.errSet.parity = false) : (cycleNext m s).errSet.parity = false := by
  have hp := cycleNext_errSet_has m s .controlStoreParity
  simpa [ErrSet.has, h, parity_not_raised] using hp

/-- The I/O processor's control-store slot is never scheduled (R385). -/
theorem cycleNext_scheduled (h : s.curTask ≠ .iopControlStore) : (cycleNext m s).curTask ≠ .iopControlStore := by
  by_cases hc : s.cycle = .c3
  · rw [(cycleNext_boundary m s hc).1]
    exact nextTask_ne_iopControlStore _
  · rwa [cycleNext_curTask_of_ne_c3 m s hc]

end CycleEnd

/-! ### Reset -/

/-- Settles O2. -/
theorem resetIsGood : Obligations.ResetIsGood where
  csWf := reset_cs_wf
  noParity := rfl
  trapRange := Nat.zero_le 2
  clickStart := fun _ => ⟨rfl, rfl, rfl⟩
  scheduled := by decide
  atRest := fun _ => ⟨rfl, rfl, rfl, rfl⟩

/-- The reset machine waits and its script is empty. -/
theorem step_reset : step State.reset = .next State.reset := rfl

/-- The program counters are 0 after reset, so whoever is woken the fetch is at address 0 (70_reset_and_hazards.md R451). -/
theorem fetch_wakeTask_reset (k : Task) : fetch (wakeTask k State.reset) = csRead State.reset 0 := by
  have htpc : rd (wakeTask k State.reset).tpc (wakeTask k State.reset).curTask.id = 0 := rd_replicate _ _
  rw [fetch, htpc]
  rfl

/-- Settles O1. -/
theorem resetLeavesTheSpecValues : Obligations.ResetLeavesTheSpecValues :=
  ⟨rd_replicate _, rfl, rfl, rd_replicate _, rd_replicate _, rd_replicate _, rfl, rfl, rfl, rfl, rfl, rd_replicate _,
    rd_replicate _, rd_replicate _, rfl, rfl, rfl, rfl, rfl, rfl, rfl, rfl, rfl, rfl, rfl, rfl, step_reset,
    fun k => ⟨rfl, rfl, rfl, rfl, fetch_wakeTask_reset k⟩⟩

/-! ### The invariant -/

/-- A cycle of a running machine keeps the invariant; a running machine never starts to wait. -/
theorem cycleNext_inv (m : Micro) {s : State} (h : s.Inv) (hw : s.waiting = false) : (cycleNext m s).Inv where
  csWf := by simpa using h.csWf
  noParity := cycleNext_noParity m s h.noParity
  trapRange := cycleNext_trapCount_le m s h.trapRange
  clickStart := fun hc => cycleNext_latches_of_c3 m s (cycle_eq_c3_of_cycleNext_c1 m s hc)
  scheduled := cycleNext_scheduled m s h.scheduled
  atRest := by simp [hw]

/-- Sleeping a task when nobody is woken changes no flag. -/
theorem sleepTask_wake_of_asleep {s : State} (h : s.wake = Vector.replicate _ false) (k : Task) :
    (sleepTask k s).wake = Vector.replicate _ false := by
  apply file_ext
  intro i
  rw [sleepTask_wake, h, rd_wr, rd_replicate, ite_self]

theorem resetCore_inv {s : State} (h : s.Inv) : (resetCore s).Inv :=
  { resetIsGood with csWf := h.csWf }

/-- Every act of the environment keeps the invariant (R371). -/
theorem applyAct_inv (a : EnvAct) {s : State} (h : s.Inv) : (applyAct a s).Inv := by
  cases a with
  | csWrite a w => exact { h with csWf := csWrite_wf h.csWf a w }
  | tpcWriteHigh t b => exact { h with }
  | tpcWriteLow t b => exact { h with }
  | wakeTask t => exact { h with atRest := fun hw => absurd hw Bool.false_ne_true }
  | sleepTask t =>
    refine { h with atRest := fun hw => ?_ }
    obtain ⟨hk, hc, hcl, hwk⟩ := h.atRest hw
    exact ⟨hk, hc, hcl, sleepTask_wake_of_asleep hwk t⟩
  | reset => exact resetCore_inv h

theorem envPhase_inv {s : State} (h : s.Inv) : (envPhase s).Inv :=
  envPhase_keeps (fun a _ hs => applyAct_inv a hs) (fun _ _ _ hs => { hs with }) h

/-- Settles O3: the cycle of a running machine keeps the invariant, and so does the environment's turn. -/
theorem stepKeepsTheInvariant : Obligations.StepKeepsTheInvariant := by
  intro s t h hstep
  rcases step_next hstep with ⟨_, rfl⟩ | ⟨hw, u, hu, rfl⟩
  · exact envPhase_inv h
  · obtain ⟨_, rfl⟩ := exec_next hu
    exact envPhase_inv (cycleNext_inv _ h hw)

/-! ### Runs of several steps -/

section Runs

variable {M : Host.Core}

/-- A run of `n + 1` steps is a step and a run of `n` steps. -/
theorem run_succ_next {n : Nat} {s t : M.State} (h : M.run (n + 1) s = .next t) :
    ∃ u, M.step s = .next u ∧ M.run n u = .next t := by
  unfold Host.Core.run at h
  cases hs : M.step s with
  | next u => exact ⟨u, rfl, by simpa [hs] using h⟩
  | fault e => simp [hs] at h
  | refused e => simp [hs] at h

/-- What every step keeps, every run keeps. -/
theorem run_keeps {P : M.State → Prop} (hstep : ∀ s t, P s → M.step s = .next t → P t) {n : Nat} :
    ∀ {s t : M.State}, P s → M.run n s = .next t → P t := by
  induction n with
  | zero =>
    intro s t hs h
    obtain rfl : s = t := Host.Outcome.next.inj h
    exact hs
  | succ n ih =>
    intro s t hs h
    obtain ⟨u, hu, hrun⟩ := run_succ_next h
    exact ih (hstep s u hs hu) hrun

end Runs

/-! ### The control store -/

theorem scriptLeavesStore_cons (e : EnvTick) (l : List EnvTick) :
    scriptLeavesStore (e :: l) = true ↔ (∀ a w, .csWrite a w ∉ e.acts) ∧ scriptLeavesStore l = true := by
  simp only [scriptLeavesStore, List.all_cons, Bool.and_eq_true, List.all_eq_true (l := e.acts), and_congr_left_iff]
  refine fun _ => ⟨fun h a w hm => Bool.false_ne_true (h _ hm), fun h act hm => ?_⟩
  cases act with
  | csWrite a w => exact absurd hm (h a w)
  | tpcWriteHigh t b => rfl
  | tpcWriteLow t b => rfl
  | wakeTask t => rfl
  | sleepTask t => rfl
  | reset => rfl

/-- No act of the environment touches the script. -/
theorem applyAct_script (a : EnvAct) (s : State) : (applyAct a s).script = s.script := by cases a <;> rfl

/-- Every act but `CSWrite` keeps the control store, the reset act among them (notes/assumptions/11.md). -/
theorem applyAct_cs {act : EnvAct} (h : ∀ a w, act ≠ .csWrite a w) (s : State) : (applyAct act s).cs = s.cs := by
  cases act with
  | csWrite a w => exact absurd rfl (h a w)
  | tpcWriteHigh t b => rfl
  | tpcWriteLow t b => rfl
  | wakeTask t => rfl
  | sleepTask t => rfl
  | reset => rfl

theorem applyActs_script (l : List EnvAct) (s : State) : (applyActs l s).script = s.script := by
  induction l generalizing s with
  | nil => rfl
  | cons a rest ih => rw [applyActs, ih, applyAct_script]

theorem applyActs_cs {l : List EnvAct} (h : ∀ a w, .csWrite a w ∉ l) (s : State) : (applyActs l s).cs = s.cs := by
  induction l generalizing s with
  | nil => rfl
  | cons act rest ih =>
    have hact : ∀ a w, act ≠ .csWrite a w := fun a w e => h a w (e ▸ List.mem_cons_self)
    have hrest : ∀ a w, .csWrite a w ∉ rest := fun a w hm => h a w (List.mem_cons_of_mem _ hm)
    rw [applyActs, ih hrest, applyAct_cs hact]

/-- The environment's turn without a `CSWrite` keeps the store and leaves a script without one. -/
theorem envPhase_leavesStore {s : State} (h : scriptLeavesStore s.script = true) :
    scriptLeavesStore (envPhase s).script = true ∧ (envPhase s).cs = s.cs := by
  unfold envPhase
  split
  · exact ⟨h, rfl⟩
  · next e rest hs =>
    rw [hs, scriptLeavesStore_cons] at h
    obtain ⟨hacts, hrest⟩ := h
    exact ⟨by rwa [applyActs_script], applyActs_cs hacts _⟩

/-- No cycle writes the control store (20_memory.md R60, R62), so a step writes it only through the environment's turn. -/
theorem step_leavesStore {s t : State} (h : scriptLeavesStore s.script = true) (hstep : step s = .next t) :
    scriptLeavesStore t.script = true ∧ t.cs = s.cs := by
  rcases step_next hstep with ⟨_, rfl⟩ | ⟨_, u, hu, rfl⟩
  · exact envPhase_leavesStore h
  · obtain ⟨_, rfl⟩ := exec_next hu
    simpa using envPhase_leavesStore (s := cycleNext _ s) (by simpa using h)

theorem run_leavesStore {n : Nat} {s t : State} (h : scriptLeavesStore s.script = true)
    (hrun : Sys2Proof.core.run n s = .next t) : scriptLeavesStore t.script = true ∧ t.cs = s.cs := by
  refine run_keeps (M := Sys2Proof.core) (P := fun u : State => scriptLeavesStore u.script = true ∧ u.cs = s.cs)
    (fun u v hu huv => ?_) ⟨h, rfl⟩ hrun
  obtain ⟨hscript, hcs⟩ := step_leavesStore hu.1 huv
  exact ⟨hscript, hcs.trans hu.2⟩

theorem csRead_congr {s t : State} (h : t.cs = s.cs) (a : MAddr) : csRead t a = csRead s a := by
  rw [csRead, csRead, h]

/-- Settles O56: one step, then every run by the packaged induction; the read-after-write law is that of the store. -/
theorem controlStoreIsWrittenOnlyFromOutside : Obligations.ControlStoreIsWrittenOnlyFromOutside := by
  refine ⟨fun s t h hstep => ?_, fun n s t h hrun => ?_, fun s a b w hwf => ?_⟩
  · obtain ⟨hscript, hcs⟩ := step_leavesStore h hstep
    exact ⟨hscript, csRead_congr hcs⟩
  · exact csRead_congr (run_leavesStore h hrun).2
  · exact ⟨csRead_csWrite hwf a b w, csWrite_wf hwf a w⟩

/-! ### What a cycle leaves of each register file -/

section Frames

variable (m : Micro) (s : State)

theorem nextR_other {j : BitVec 4} (h : j ≠ m.rB) : rd (nextR m s) j = rd s.r j := by
  unfold nextR
  split
  · exact rd_wr_of_ne _ _ h
  · rfl

/-- Write-back codes 0 and 1 write no general register (40_alu.md R171, R172). -/
theorem nextR_of_no_writeback (h : m.dest = .q ∨ m.dest = .none) : nextR m s = s.r := by
  rcases h with h | h <;> simp [nextR, writeR, h]

/-- Only write-back codes 0, 4 and 6 write Q (R171 to R178). -/
theorem nextQ_frame (h0 : m.dest ≠ .q) (h4 : m.dest ≠ .doubleRight) (h6 : m.dest ≠ .doubleLeft) : nextQ m s = s.q := by
  unfold nextQ
  cases hd : m.dest with
  | q => exact absurd hd h0
  | doubleRight => exact absurd hd h4
  | doubleLeft => exact absurd hd h6
  | none => rfl
  | ba => rfl
  | b => rfl
  | singleRight => rfl
  | singleLeft => rfl

theorem nextSu_of_not_suWrite (h : m.suWrite = false) : nextSu m s = s.su := by simp [nextSu, h]

theorem nextSu_other {b : Byte} (h : b ≠ suAddr m s) : rd (nextSu m s) b = rd s.su b := by
  unfold nextSu
  split_ifs
  · exact rd_wr_of_ne _ _ h
  · rfl

theorem nextRh_other {j : BitVec 4} (h : ¬ (m.x = .rhLoad ∧ j = m.rB)) : rd (nextRh m s) j = rd s.rh j := by
  unfold nextRh
  split_ifs with hx
  · exact rd_wr_of_ne _ _ (fun hj => h ⟨hx, hj⟩)
  · rfl

theorem linkIndex_eq_some {i : BitVec 3} (h : m.linkIndex = some i) : m.x = .link i := by
  unfold Micro.linkIndex at h
  split at h
  · next hx => rw [hx, Option.some.inj h]
  · cases h

theorem nextLink_other {j : BitVec 3} (h : m.x ≠ .link j) : rd (nextLink m s) j = rd s.link j := by
  unfold nextLink
  split
  · next i hi =>
    have hne : j ≠ i := fun e => h (e ▸ linkIndex_eq_some m hi)
    split_ifs
    · rfl
    · exact rd_wr_of_ne _ _ hne
  · rfl

theorem nextStackP_frame (hpush : m.pushCount = 0) (hpop : m.popCount = 0) (hload : m.loadStackP = false) :
    nextStackP m s = s.stackP := by
  simp [nextStackP, Micro.pushes, Micro.pops, hpush, hpop, hload]

theorem nextIb_frame (hload : m.ibLoad = false) (hpeek : m.peekAdvances = false) (hdisp : m.ibDispRequest = false) :
    nextIb m s = s.ib := by
  simp [nextIb, consumeReq, dispatchPerformed, hload, hpeek, hdisp]

theorem cycleNext_ib : (cycleNext m s).ib = nextIb m s := by simp [State.ib]

/-! ### What a cycle leaves of the control state -/

/-- No instruction writes another wake flag than the Kernel's (60_exceptions.md R422). -/
theorem nextWake_other {k : Task} (h : k ≠ .kernel) : rd (nextWake m s) k.id = rd s.wake k.id := by
  have hne : k.id ≠ Task.id .kernel := fun e => h (Task.id_injective _ _ e)
  unfold nextWake
  split_ifs
  · exact rd_wr_of_ne _ _ hne
  · exact rd_wr_of_ne _ _ hne
  · rfl

theorem exitNow_eq_false (h : ¬ (m.exitKernel = true ∧ s.cycle = .c1)) : exitNow m s = false := by
  simpa [exitNow] using h

theorem nextWake_frame (hexit : exitNow m s = false) (henter : m.enterKernel = false) : nextWake m s = s.wake := by
  simp [nextWake, hexit, henter]

theorem nextMint_frame (hclr : m.clrIntErr = false) (hreq : m.yNormIs .mesaIntRq = false) : nextMint m s = s.mint := by
  simp [nextMint, hclr, hreq]

theorem cycleNext_errSet_frame (hraise : cycleRaises m s = []) (hclr : m.clrIntErr = false) :
    (cycleNext m s).errSet = s.errSet := by
  simp [cycleNext, hraise, raiseAll, hclr]

theorem cycleNext_trapCount_frame (hraise : cycleRaises m s = []) (hend : ¬ EmulatorClickEnd s) :
    (cycleNext m s).trapCount = s.trapCount := by
  have hcount : raisedCount m s = s.trapCount := by rw [raisedCount, hraise]; rfl
  rw [cycleNext_trapCount, hcount]
  exact if_neg hend

end Frames

/-- Settles O58: each clause is the frame of one register file. -/
theorem registerFrame : Obligations.RegisterFrame := by
  intro i s t h
  obtain ⟨_, rfl⟩ := exec_next h
  generalize i.micro = m
  refine ⟨fun j hj => ?_, fun hd => ?_, fun h0 h4 h6 => ?_, fun a ha b hb => ?_, fun hw => ?_, fun j hj => ?_,
    fun j hj => ?_, fun hpush hpop hload => ?_, fun hc => ?_, fun hload hpeek hdisp => ?_⟩
  · rw [cycleNext_r, nextR_other m s hj]
  · rw [cycleNext_r, nextR_of_no_writeback m s hd]
  · rw [cycleNext_q, nextQ_frame m s h0 h4 h6]
  · rw [cycleNext_su, nextSu_other m s (ha ▸ hb)]
  · rw [cycleNext_su, nextSu_of_not_suWrite m s hw]
  · rw [cycleNext_rh, nextRh_other m s hj]
  · rw [cycleNext_link, nextLink_other m s hj]
  · rw [cycleNext_stackP, nextStackP_frame m s hpush hpop hload]
  · simp [hc]
  · rw [cycleNext_ib, nextIb_frame m s hload hpeek hdisp]

/-- Settles O59: each clause is the frame of one part of the control state. -/
theorem controlStateFrame : Obligations.ControlStateFrame := by
  intro i s t h
  obtain ⟨_, rfl⟩ := exec_next h
  generalize i.micro = m
  refine ⟨csRead_congr (cycleNext_cs s m), cycleNext_params s m, cycleNext_inputs s m, cycleNext_script s m,
    fun k hk => ⟨cycleNext_tpc_other m s k hk, cycleNext_tc_other m s k hk⟩, fun k hk => ?_, fun hexit henter => ?_,
    fun hclr hreq => ?_, fun henter => ?_, fun hc hexit => ?_, cycleNext_errSet_frame m s,
    cycleNext_trapCount_frame m s, cycleNext_latches_of_c2 m s⟩
  · rw [cycleNext_wake, nextWake_other m s hk]
  · rw [cycleNext_wake, nextWake_frame m s (exitNow_eq_false m s hexit) henter]
  · rw [cycleNext_mint, nextMint_frame m s hclr hreq]
  · simp [henter]
  · rw [cycleNext_kernelExit_of_ne_c3 m s hc, exitNow_eq_false m s hexit, Bool.or_false]

/-! ### The stored flags and the event log are not read back -/

/-- The state with other stored flags and another event log: the two fields that no operand of a cycle reads. -/
def State.withRecords (f : Flags) (e : List Event) (s : State) : State := { s with flags := f, events := e }

section Records

variable (f : Flags) (e : List Event) (m : Micro) (s : State)

theorem ibLoadRefusal_withRecords : ibLoadRefusal m (s.withRecords f e) = ibLoadRefusal m s := rfl

theorem cycleEvents_withRecords : cycleEvents m (s.withRecords f e) = cycleEvents m s := rfl

theorem cycleRaises_withRecords : cycleRaises m (s.withRecords f e) = cycleRaises m s := rfl

/-- The commit overwrites the flags and appends to the log; every operand it lands reads other fields. -/
theorem commit_withRecords :
    commit m (s.withRecords f e) = (commit m s).withRecords (aluOut m s).flags (e ++ cycleEvents m s) := rfl

theorem raiseAll_withRecords (cs : List Cause) :
    raiseAll cs (s.withRecords f e) = (raiseAll cs s).withRecords f e := by
  induction cs generalizing s with
  | nil => rfl
  | cons c rest ih => exact ih (raiseErr c s)

theorem trapCountdown_withRecords :
    trapCountdown (s.withRecords f e) = (trapCountdown s).withRecords f e := by
  simp only [trapCountdown, apply_ite (State.withRecords f e)]
  rfl

theorem switchTo_withRecords (k : Task) : switchTo k (s.withRecords f e) = (switchTo k s).withRecords f e := by
  simp only [switchTo, apply_ite (State.withRecords f e)]
  rfl

theorem clickStep_withRecords : clickStep (s.withRecords f e) = (clickStep s).withRecords f e := by
  have hcount := trapCountdown_withRecords f e (clearLatches s)
  have hswitch := switchTo_withRecords f e { advanceClick (trapCountdown (clearLatches s)) with kernelExit := false }
    (nextTask (advanceClick (trapCountdown (clearLatches s))))
  calc clickStep (s.withRecords f e)
      = scheduleNext (advanceClick (trapCountdown ((clearLatches s).withRecords f e))) := rfl
    _ = scheduleNext (advanceClick ((trapCountdown (clearLatches s)).withRecords f e)) := by rw [hcount]
    _ = (clickStep s).withRecords f e := hswitch

theorem advanceCycle_withRecords : advanceCycle (s.withRecords f e) = (advanceCycle s).withRecords f e := by
  by_cases h : s.cycle = .c3
  · rw [advanceCycle_of_c3 h, advanceCycle_of_c3 (s := s.withRecords f e) h]
    exact clickStep_withRecords f e { s with cycle := .c1 }
  · rw [advanceCycle_of_ne_c3 h, advanceCycle_of_ne_c3 (s := s.withRecords f e) h]
    rfl

/-- A cycle from other flags and another log differs in nothing but the log it appends to. -/
theorem cycleNext_withRecords :
    cycleNext m (s.withRecords f e) = { cycleNext m s with events := e ++ cycleEvents m s } := by
  have hflags : (cycleNext m s).flags = (aluOut m s).flags := cycleNext_flags s m
  calc cycleNext m (s.withRecords f e)
      = (cycleNext m s).withRecords (aluOut m s).flags (e ++ cycleEvents m s) := by
        rw [cycleNext, cycleRaises_withRecords, commit_withRecords, raiseAll_withRecords, advanceCycle_withRecords,
          ← cycleNext]
    _ = { cycleNext m s with events := e ++ cycleEvents m s } := by rw [← hflags]; rfl

end Records

/-- Settles O60: other flags leave the log the same, so nothing differs; earlier events stay in front of the log. -/
theorem eventsAndFlagsAreNotReadBack : Obligations.EventsAndFlagsAreNotReadBack := by
  intro i s
  refine ⟨fun f => ?_, fun t e h => ?_⟩
  · have hnext : cycleNext i.micro (s.withRecords f s.events) = cycleNext i.micro s := by
      rw [cycleNext_withRecords, ← cycleNext_events]
    have hrun : runCycle i.micro (s.withRecords f s.events) = runCycle i.micro s := by
      simp only [runCycle, ibLoadRefusal_withRecords, hnext]
    rw [exec_eq_runCycle, exec_eq_runCycle]
    exact hrun
  · obtain ⟨hruns, rfl⟩ := exec_next h
    have hnext := cycleNext_withRecords s.flags (e ++ s.events) i.micro s
    rw [List.append_assoc, ← cycleNext_events] at hnext
    have hother : Runs i.micro (s.withRecords s.flags (e ++ s.events)) := hruns
    exact (exec_of_runs hother).trans (congrArg Host.Outcome.next hnext)

end Sys2Proof.Machine
end

section
/-! SUPPORT. The decoder undoes the encoder, and the row it dispatches a word through stands for the whole word. -/

namespace Sys2Proof

/-! ### The decoder after the encoder -/

theorem ZOp.ofFields_fields (y : YOp) (z : ZOp) : ZOp.ofFields (Planes.yz y z).zMode (Planes.yz y z).fZ = z := by
  cases z with
  | norm op => exact congrArg ZOp.norm (ZNorm.ofCode_code op)
  | nibble imm => rfl
  | uaddr lo => rfl
  | input op => exact congrArg ZOp.input (ZInput.ofCode_code op)

/-- The two halves of a byte literal are its two plane fields (30_encoding.md R104). -/
theorem byte_append_halves (imm : BitVec 8) : imm.extractLsb' 4 4 ++ imm.extractLsb' 0 4 = imm := by
  rw [BitVec.extractLsb'_append_extractLsb'_eq_extractLsb' (by decide)]
  exact extract_self imm

theorem Planes.ofFields_fields (p : Planes) : Planes.ofFields p.yMode p.zMode p.fY p.fZ = p := by
  cases p with
  | byte imm zm => exact congrArg (Planes.byte · zm) (byte_append_halves imm)
  | yz y z =>
    cases y with
    | norm op => exact congrArg₂ Planes.yz (congrArg YOp.norm (YNorm.ofCode_code op)) (ZOp.ofFields_fields (.norm op) z)
    | branch op =>
      exact congrArg₂ Planes.yz (congrArg YOp.branch (YBranch.ofCode_code op)) (ZOp.ofFields_fields (.branch op) z)
    | out port => exact congrArg (Planes.yz (.out port)) (ZOp.ofFields_fields (.out port) z)

/-- Every field of a microinstruction is read back from its word (R90). -/
theorem decodeMicro_encodeMicro (m : Micro) : decodeMicro (encodeMicro m) = m := by
  unfold decodeMicro
  simp only [encodeMicro_rA, encodeMicro_rB, encodeMicro_aS, encodeMicro_aF, encodeMicro_aD, encodeMicro_yMode,
    encodeMicro_zMode, encodeMicro_fY, encodeMicro_fX, encodeMicro_fZ, encodeMicro_inia,
    bitAt_eq_of_extract (encodeMicro_ep m), bitAt_eq_of_extract (encodeMicro_cin m),
    bitAt_eq_of_extract (encodeMicro_enSU m), bitAt_eq_of_extract (encodeMicro_mem m), SrcPair.ofCode_code,
    AluFn.ofCode_code, WbSel.ofCode_code, XOp.ofCode_code, Planes.ofFields_fields]

/-! ### Coding a row that is already coded -/

section Recode

variable {m : Micro}

theorem withSrc_of_eq {p : SrcPair} (h : m.aS = p) : m.withSrc p = m := h ▸ rfl

theorem withFn_of_eq {f : AluFn} (h : m.aF = f) : m.withFn f = m := h ▸ rfl

theorem withEp_of_eq {b : Bool} (h : m.ep = b) : m.withEp b = m := h ▸ rfl

theorem withCin_of_eq {b : Bool} (h : m.cin = b) : m.withCin b = m := h ▸ rfl

theorem withMem_of_mem (h : m.mem = true) : m.withMem = m := by rw [Micro.withMem, ← h]

theorem withSu_of_eq {p : SrcPair} (h : m.enSU = true) (hp : m.aS = p) : m.withSu p = m := by
  rw [Micro.withSu, ← h, ← hp]

theorem withX_of_eq {x : XOp} (h : m.x = x) : m.withX x = m := h ▸ rfl

theorem withPlainDest_of_eq {d : WbSel} (h : m.aD = d) (hx : m.x.isShiftOrCycle = false) : m.withPlainDest d = m := by
  rw [Micro.withPlainDest, hx, ← h]
  rfl

/-- Only `shift` and `cycle` put the high bit into the write-back code (R121 to R123). -/
theorem x_of_isShiftOrCycle (h : m.x.isShiftOrCycle = true) : (if decide (m.x = .cycle) then .cycle else .shift) = m.x := by
  cases hx : m.x with
  | shift => rfl
  | cycle => rfl
  | _ => rw [hx] at h; cases h

theorem withShiftDest_of_eq {d : WbSel} (h : m.aD = d) (hx : m.x.isShiftOrCycle = true) :
    m.withShiftDest d (decide (m.x = .cycle)) = m := by
  rw [Micro.withShiftDest, x_of_isShiftOrCycle hx, ← h]

theorem withByte_of_eq {imm : BitVec 8} {zm : BitVec 2} (h : m.planes = .byte imm zm) : m.withByte imm = m := by
  rw [Micro.withByte, h, Planes.zMode_byte, ← h]

theorem withY_of_eq {y : YOp} {z : ZOp} (h : m.planes = .yz y z) : m.withY y = m := by
  have hp : Planes.yz y (m.planes.z?.getD (.norm .noop)) = m.planes := by rw [h]; rfl
  rw [Micro.withY, hp]

theorem withZ_of_eq {y : YOp} {z : ZOp} (h : m.planes = .yz y z) : m.withZ z = m := by
  have hp : Planes.yz (m.planes.y?.getD (.norm .noop)) z = m.planes := by rw [h]; rfl
  rw [Micro.withZ, hp]

end Recode

/-! ### The rows of a microinstruction stand for it -/

theorem micro_ite {m : Micro} {c : Prop} [Decidable c] {i j : Instr} (hi : c → i.micro = m) (hj : ¬ c → j.micro = m) :
    (if c then i else j).micro = m := by
  split_ifs with h
  · exact hi h
  · exact hj h

section Rows

variable (m : Micro)

theorem srcRow_micro : (srcRow m).micro = m := by
  unfold srcRow
  split <;> exact withSrc_of_eq ‹_›

theorem fnRow_micro : (fnRow m).micro = m := by
  unfold fnRow
  split <;> exact withFn_of_eq ‹_›

theorem destRow_micro : (destRow m).micro = m := by
  unfold destRow
  split
  · next hx => split <;> exact withShiftDest_of_eq ‹_› hx
  · next hx => split <;> exact withPlainDest_of_eq ‹_› (Bool.eq_false_iff.mpr hx)

theorem suRow_micro (h : m.enSU = true) : (suRow m).micro = m := by
  unfold suRow
  split <;> exact withSu_of_eq h ‹_›

theorem xRow_micro : (xRow m).micro = m := by
  have hrow : (xRow m).micro = m.withX m.x := by
    unfold xRow
    cases m.x with
    | link i => obtain ⟨i⟩ := i; fin_cases i <;> rfl
    | _ => rfl
  rw [hrow, withX_of_eq rfl]

theorem yNormRow_micro (op : YNorm) : (yNormRow op m).micro = m.withY (.norm op) := by cases op <;> rfl

theorem yBranchRow_micro (op : YBranch) : (yBranchRow op m).micro = m.withY (.branch op) := by cases op <;> rfl

theorem yOutRow_micro (port : BitVec 4) : (yOutRow port m).micro = m.withY (.out port) := by
  obtain ⟨port⟩ := port
  fin_cases port <;> rfl

theorem yRow_micro (y : YOp) : (yRow y m).micro = m.withY y := by
  cases y with
  | norm op => exact yNormRow_micro m op
  | branch op => exact yBranchRow_micro m op
  | out port => exact yOutRow_micro m port

theorem zNormRow_micro (op : ZNorm) : (zNormRow op m).micro = m.withZ (.norm op) := by cases op <;> rfl

theorem zInputRow_micro (op : ZInput) : (zInputRow op m).micro = m.withZ (.input op) := by cases op <;> rfl

theorem zRow_micro (z : ZOp) : (zRow z m).micro = m.withZ z := by
  cases z with
  | norm op => exact zNormRow_micro m op
  | nibble imm => rfl
  | uaddr lo => rfl
  | input op => exact zInputRow_micro m op

/-- The row a word is dispatched through stands for the whole microinstruction (notes/assumptions/1.md). -/
theorem principal_micro : (principal m).micro = m := by
  unfold principal
  refine micro_ite (suRow_micro m) fun _ => micro_ite withMem_of_mem fun _ => micro_ite withEp_of_eq fun _ =>
    micro_ite withCin_of_eq fun _ => ?_
  split
  · next imm zm hp => exact withByte_of_eq hp
  · next y z hp =>
    exact micro_ite (fun _ => (yRow_micro m y).trans (withY_of_eq hp)) fun _ =>
      micro_ite (fun _ => (zRow_micro m z).trans (withZ_of_eq hp)) fun _ =>
      micro_ite (fun _ => destRow_micro m) fun _ => micro_ite (fun _ => xRow_micro m) fun _ =>
      micro_ite (fun _ => destRow_micro m) fun _ => micro_ite (fun _ => fnRow_micro m) fun _ =>
      micro_ite (fun _ => srcRow_micro m) fun _ => rfl

end Rows

theorem decode_encodeMicro_micro (m : Micro) : (decode (encodeMicro m)).micro = m := by
  rw [decode, decodeMicro_encodeMicro, principal_micro]

end Sys2Proof
end

section
/-! SUPPORT. The proofs of the statements about the step and its environment, the SU file and the memory operation. -/

namespace Sys2Proof.Machine

/-! ### The step -/

/-- Decoding an instruction's word may name another row of it, and that row runs the same cycle. -/
theorem exec_decode_encode (i : Instr) (s : State) : exec (decode (encode i)) s = exec i s := by
  rw [exec_eq_runCycle, exec_eq_runCycle, encode, decode_encodeMicro_micro]

theorem step_of_waiting {s : State} (h : s.waiting = true) : step s = .next (envPhase s) := by
  rw [step, if_pos h]

theorem envPhase_nil {s : State} (h : s.script = []) : envPhase s = s := by
  unfold envPhase
  rw [h]

theorem envPhase_cons {s : State} {e : EnvTick} {rest : List EnvTick} (h : s.script = e :: rest) :
    envPhase s = applyActs e.acts { s with script := rest, inputs := e.answers } := by
  unfold envPhase
  rw [h]

/-- Settles O8: the fetched word is the instruction's, and decoding it keeps the meaning; that the instruction is well formed
is not used. -/
theorem stepRunsTheDecodedInstruction : Obligations.StepRunsTheDecodedInstruction := by
  refine ⟨fun s i hw _ hword => ?_, fun s => step_of_waiting, fun s => envPhase_nil⟩
  have hfetch : fetch s = encode i := hword.symm
  unfold step
  rw [hw, hfetch, exec_decode_encode]
  rfl

/-! ### The environment's ports -/

theorem wr_wr_same {α : Type} {k : Nat} (v : Vector α (2 ^ k)) (i : BitVec k) (x y : α) : wr (wr v i x) i y = wr v i y := by
  simp [wr]

theorem wakeTask_wakeTask (k : Task) (s : State) : wakeTask k (wakeTask k s) = wakeTask k s := by
  simp only [wakeTask, wr_wr_same]

/-- An update of one task's entry leaves the entries of the other tasks. -/
theorem rd_wr_task {α : Type} (v : Vector α (2 ^ 3)) (x : α) {j k : Task} (h : j ≠ k) : rd (wr v k.id x) j.id = rd v j.id :=
  rd_wr_of_ne v x (fun e => h (Task.id_injective j k e))

theorem envPhase_reset {s : State} {a : EnvInputs} {rest : List EnvTick}
    (h : s.script = { acts := [.reset], answers := a } :: rest) :
    envPhase s = resetCore { s with script := rest, inputs := a } := envPhase_cons h

/-- Settles O57: reads after writes of the task table, and a reset that leaves the reset values (10_state.md R49). -/
theorem environmentPortsFollowTheRules : Obligations.EnvironmentPortsFollowTheRules := by
  intro s k b
  refine ⟨rd_wr_same _ _ _, rd_wr_same _ _ _, fun j hj => ⟨rd_wr_task _ _ hj, rd_wr_task _ _ hj⟩, rfl, rfl, rfl, rfl,
    rd_wr_same _ _ _, rfl, fun j hj => rd_wr_task _ _ hj, wakeTask_wakeTask k s, rd_wr_same _ _ _, rfl, rfl,
    fun j hj => rd_wr_task _ _ hj, rfl, fun a rest h => ⟨envPhase s, rfl, ?_⟩⟩
  rw [envPhase_reset h]
  exact ⟨rfl, rfl, rfl, rfl, fun _ => rfl, rd_replicate _, rd_replicate _, rfl, rfl, rfl, rfl, rfl, rfl, rfl,
    step_of_waiting rfl⟩

/-! ### The sources of the X bus (41_bus_input.md R190) -/

section XBus

variable {m : Micro}

/-- The two strobes drive nothing (R193). -/
theorem inputValue_of_not_drives {op : ZInput} (h : op.drives = false) (m : Micro) (s : State) :
    inputValue op m s = none := by
  cases op with
  | kStrobe => rfl
  | eStrobe => rfl
  | _ => cases h

theorem inputSource_eq_none (h : ∀ op, m.input? = some op → op.drives = false) (s : State) : inputSource m s = none :=
  Option.bind_eq_none_iff.mpr fun op hop => inputValue_of_not_drives (h op hop) m s

/-- Without a literal, a reading input and a rotate, the SU read comes next, then the memory read (R190). -/
theorem xBus_of_no_plane_source (hconst : m.const? = none) (hrot : m.rotAmount = none)
    (hinput : ∀ op, m.input? = some op → op.drives = false) (s : State) :
    xBus m s = (suSource m s <|> memSource m s).getD s.params.xbusIdle := by
  have hc : constSource m = none := by rw [constSource, hconst]; rfl
  have hr : rotSource m s = none := by rw [rotSource, hrot]; rfl
  rw [xBus, hc, hr, inputSource_eq_none hinput]
  rfl

theorem suSource_of_suRead (h : m.suRead = true) (s : State) : suSource m s = some (rd s.su (suAddr m s)) := if_pos h

theorem suSource_eq_none (h : m.suRead = false) (s : State) : suSource m s = none := by simp [suSource, h]

theorem memSource_of_c3 {s : State} (h : m.mem = true) (hc : s.cycle = .c3) : memSource m s = some (dataRead s).value := by
  simp [memSource, h, hc]

/-- A source pair with D takes the X bus as the ALU's R operand (40_alu.md R145 to R147). -/
theorem srcPair_fst_of_usesD (h : m.aS.usesD = true) (s : State) : (srcPair m s).1 = xBus m s := by
  unfold srcPair
  cases hs : m.aS with
  | da => rfl
  | dq => rfl
  | dz => rfl
  | _ => rw [hs] at h; cases h

end XBus

/-! ### The SU file (R215, R216; 47_stack.md R331, R340) -/

section SuFile

variable {m : Micro} {p : SrcPair} (s : State)

/-- U-address mode addresses the SU file directly (R216). -/
theorem suAddr_of_uaddr {lo : BitVec 4} (h : m.planes.z? = some (.uaddr lo)) : suAddr m s = m.rA ++ lo := by
  simp only [suAddr, Micro.suDirect?, h]

/-- In every other mode the stack pointer at the start of the cycle is the address. -/
theorem suAddr_of_not_uaddr (h : ∀ lo, m.planes.z? ≠ some (.uaddr lo)) : suAddr m s = 0#4 ++ s.stackP := by
  have hdirect : m.suDirect? = none := by
    unfold Micro.suDirect?
    split
    · next lo hz => exact absurd hz (h lo)
    · rfl
  rw [suAddr, hdirect]

theorem nextSu_same (h : m.suWrite = true) : rd (nextSu m s) (suAddr m s) = yBus m s := by
  rw [nextSu, if_pos h, rd_wr_same]

theorem withSu_suWrite (h : p.usesD = false) : (m.withSu p).suWrite = true := by
  simp [Micro.suWrite, Micro.withSu, h]

theorem withSu_not_suWrite (h : p.usesD = true) : (m.withSu p).suWrite = false := by
  simp [Micro.suWrite, Micro.withSu, h]

theorem withSu_suRead (h : p.usesD = true) : (m.withSu p).suRead = true := by
  simp [Micro.suRead, Micro.withSu, h]

/-- The SU-write rows code an SU access with a source pair without D (30_encoding.md R130). -/
theorem suWriteRow_micro {i : Instr}
    (h : i ∈ ([.suWriteAQ m, .suWriteAB m, .suWrite0Q m, .suWrite0B m, .suWrite0A m] : List Instr)) :
    ∃ p : SrcPair, p.usesD = false ∧ i.micro = m.withSu p := by
  simp only [List.mem_cons, List.not_mem_nil, or_false] at h
  rcases h with rfl | rfl | rfl | rfl | rfl
  · exact ⟨.aq, rfl, rfl⟩
  · exact ⟨.ab, rfl, rfl⟩
  · exact ⟨.zq, rfl, rfl⟩
  · exact ⟨.zb, rfl, rfl⟩
  · exact ⟨.za, rfl, rfl⟩

/-- The SU-read rows code an SU access with a source pair with D (R130). -/
theorem suReadRow_micro {i : Instr} (h : i ∈ ([.suReadDA m, .suReadDQ m, .suReadD0 m] : List Instr)) :
    ∃ p : SrcPair, p.usesD = true ∧ i.micro = m.withSu p := by
  simp only [List.mem_cons, List.not_mem_nil, or_false] at h
  rcases h with rfl | rfl | rfl
  · exact ⟨.da, rfl, rfl⟩
  · exact ⟨.dq, rfl, rfl⟩
  · exact ⟨.dz, rfl, rfl⟩

end SuFile

/-- Settles O22: the store of a source pair without D, and the two forms of its address. -/
theorem suWriteRowsComplete : Obligations.SuWriteRowsComplete := by
  intro m s i hi hruns
  obtain ⟨p, hp, hmicro⟩ := suWriteRow_micro hi
  refine ⟨_, exec_of_runs hruns, ?_, ?_⟩
  · rintro a rfl
    rw [cycleNext_su, hmicro]
    exact ⟨nextSu_same s (withSu_suWrite hp), fun b hb => nextSu_other _ s hb⟩
  · rw [hmicro]
    split
    · next lo hz => exact suAddr_of_uaddr (m := m.withSu p) s hz
    · next hz => exact suAddr_of_not_uaddr (m := m.withSu p) s hz

/-- Settles O23: a source pair with D stores nothing, and the SU entry is the fifth source of the X bus. -/
theorem suReadRowsComplete : Obligations.SuReadRowsComplete := by
  intro m s i hi hruns
  obtain ⟨p, hp, hmicro⟩ := suReadRow_micro hi
  refine ⟨_, exec_of_runs hruns, ?_, ?_, fun hconst hrot hinput => ?_⟩
  · rw [cycleNext_su, hmicro, nextSu_of_not_suWrite _ s (withSu_not_suWrite hp)]
  · rw [hmicro]
    exact srcPair_fst_of_usesD (m := m.withSu p) hp s
  · rw [hmicro, xBus_of_no_plane_source (m := m.withSu p) hconst hrot hinput, suSource_of_suRead (withSu_suRead hp)]
    rfl

/-! ### The memory operation (42_memory_staging.md R236 to R239) -/

section MemoryRead

variable (m : Micro) (s : State)

/-- A memory read in cycle 3 is no bus event: both loads are staged in cycles 1 and 2 (R231, R234). -/
theorem memEvents_of_c3 (h : s.cycle = .c3) : memEvents m s = [] := by
  unfold memEvents
  rw [h]
  exact ite_self _

theorem emitted_cycleNext (p : Event → Bool) : Emitted s (cycleNext m s) p ((cycleEvents m s).filter p) :=
  ⟨cycleEvents m s, cycleNext_events s m, rfl⟩

/-- The only cause of MemoryFault is an invalid read in cycle 3 (R236, R237). -/
theorem memoryFault_mem_cycleRaises_iff :
    Cause.memoryFault ∈ cycleRaises m s ↔
      m.mem = true ∧ s.cycle = .c3 ∧ (rd s.inputs.data s.curTask.id).valid = false := by
  have hmem : Cause.memoryFault ∈ cycleRaises m s ↔ memRaise m s = true := by simp [cycleRaises]
  rw [hmem]
  simp [memRaise, dataRead, and_assoc]

/-- MemoryFault after a cycle: held and not cleared, or raised. -/
theorem cycleNext_memoryFault :
    (cycleNext m s).errSet.memory
      = ((s.errSet.memory && !m.clrIntErr) || decide (Cause.memoryFault ∈ cycleRaises m s)) :=
  cycleNext_errSet_has m s .memoryFault

end MemoryRead

/-- Settles O34: the data word is the sixth source of the X bus, and its validity alone decides the raise. -/
theorem dataReadInCycleThree : Obligations.DataReadInCycleThree := by
  intro m s hc hruns
  have hraise := memoryFault_mem_cycleRaises_iff m.withMem s
  have hexec : exec (.memCycle3 m) s = .next (cycleNext m.withMem s) := exec_of_runs hruns
  refine ⟨fun hconst hinput hrot hsu => ?_, _, hexec, ?_, fun hinvalid => ?_, fun hvalid => ?_⟩
  · rw [xBus_of_no_plane_source (m := m.withMem) hconst hrot hinput, suSource_eq_none (m := m.withMem) hsu,
      memSource_of_c3 (m := m.withMem) rfl hc]
    rfl
  · have hbus := emitted_cycleNext m.withMem s Event.isBus
    rwa [cycleEvents_isBus, memEvents_of_c3 _ s hc] at hbus
  · rw [cycleNext_memoryFault, decide_eq_true (hraise.mpr ⟨rfl, hc, hinvalid⟩), Bool.or_true]
  · have hnone : Cause.memoryFault ∉ cycleRaises m.withMem s := by
      simp [hraise, hvalid]
    rw [cycleNext_memoryFault, decide_eq_false hnone, Bool.or_false]
    rfl

/-- Settles O35: the three rows code the same microinstruction, which reads the engine's cycle (R238). -/
theorem memRowsFollowTheCycle : Obligations.MemRowsFollowTheCycle := fun m s =>
  ⟨fun hruns => ⟨cycleNext m.withMem s, exec_of_runs (i := .memCycle1 m) hruns, exec_of_runs (i := .memCycle2 m) hruns,
    exec_of_runs (i := .memCycle3 m) hruns⟩, memoryFault_mem_cycleRaises_iff m s⟩

end Sys2Proof.Machine
end

section
/-! SUPPORT. The proofs of the statements about the 48-bit word: the decoder and the encoder undo each other, and the rows
a word decodes to are the well-formed instructions that encode to it, which are the rows the opcode table selects. -/

namespace Sys2Proof

/-! ### The encoder after the decoder -/

/-- The Z plane keeps its mode and its code (30_encoding.md R99, R102). -/
theorem Planes.zFields_ofFields (y : YOp) (zMode : BitVec 2) (fZ : BitVec 4) :
    (Planes.yz y (ZOp.ofFields zMode fZ)).zMode = zMode ∧ (Planes.yz y (ZOp.ofFields zMode fZ)).fZ = fZ := by
  obtain ⟨zMode⟩ := zMode
  fin_cases zMode
  · exact ⟨rfl, ZNorm.code_ofCode fZ⟩
  · exact ⟨rfl, rfl⟩
  · exact ⟨rfl, rfl⟩
  · exact ⟨rfl, ZInput.code_ofCode fZ⟩

/-- A byte literal gives its two halves back to the plane fields (R104). -/
theorem Planes.byteFields (fY fZ : BitVec 4) (zMode : BitVec 2) :
    (Planes.byte (fY ++ fZ) zMode).fY = fY ∧ (Planes.byte (fY ++ fZ) zMode).fZ = fZ :=
  ⟨(extract_append_high fY fZ 4 4 (by decide)).trans (extract_self fY),
    (extract_append_low fY fZ 0 4 (by decide)).trans (extract_self fZ)⟩

/-- The planes keep the mode fields and the plane fields they are read from (R99, R100, R104). -/
theorem Planes.fields_ofFields (yMode zMode : BitVec 2) (fY fZ : BitVec 4) :
    (Planes.ofFields yMode zMode fY fZ).yMode = yMode ∧ (Planes.ofFields yMode zMode fY fZ).zMode = zMode
      ∧ (Planes.ofFields yMode zMode fY fZ).fY = fY ∧ (Planes.ofFields yMode zMode fY fZ).fZ = fZ := by
  obtain ⟨yMode⟩ := yMode
  fin_cases yMode
  · obtain ⟨hzMode, hfZ⟩ := Planes.zFields_ofFields (.norm (YNorm.ofCode fY)) zMode fZ
    exact ⟨rfl, hzMode, YNorm.code_ofCode fY, hfZ⟩
  · obtain ⟨hzMode, hfZ⟩ := Planes.zFields_ofFields (.branch (YBranch.ofCode fY)) zMode fZ
    exact ⟨rfl, hzMode, YBranch.code_ofCode fY, hfZ⟩
  · obtain ⟨hzMode, hfZ⟩ := Planes.zFields_ofFields (.out fY) zMode fZ
    exact ⟨rfl, hzMode, rfl, hfZ⟩
  · obtain ⟨hfY, hfZ⟩ := Planes.byteFields fY fZ zMode
    exact ⟨rfl, rfl, hfY, hfZ⟩

/-- Every field goes back to the place it was read from, and the fifteen slices are the whole word (R90). -/
theorem encodeMicro_decodeMicro (w : MWord) : encodeMicro (decodeMicro w) = w := by
  obtain ⟨hyMode, hzMode, hfY, hfZ⟩ := Planes.fields_ofFields (w.extractLsb' 26 2) (w.extractLsb' 24 2)
    (w.extractLsb' 20 4) (w.extractLsb' 12 4)
  unfold encodeMicro decodeMicro
  simp only [SrcPair.code_ofCode, AluFn.code_ofCode, WbSel.code_ofCode, XOp.code_ofCode, ofBool_bitAt, hyMode, hzMode,
    hfY, hfZ]
  iterate 14 rw [BitVec.extractLsb'_append_extractLsb'_eq_extractLsb' (by decide)]
  exact extract_self w

/-- Settles O4. -/
theorem decoderInvertsEncoder : Obligations.DecoderInvertsEncoder :=
  ⟨decodeMicro_encodeMicro, encodeMicro_decodeMicro⟩

theorem encodeMicro_eq_iff (m : Micro) (w : MWord) : encodeMicro m = w ↔ m = decodeMicro w :=
  ⟨fun h => h ▸ (decodeMicro_encodeMicro m).symm, fun h => h ▸ encodeMicro_decodeMicro w⟩

/-- Settles O7. -/
theorem specWordsDecode : Obligations.SpecWordsDecode := by
  unfold Obligations.SpecWordsDecode
  exact ⟨by decide, by decide, by decide, by decide, by decide, by decide⟩

/-! ### The rows of a microinstruction, one case per field -/

/-- `i` is one of the rows that `m` codes: the list `rowsOf`, as a relation with one case per field of the table. -/
inductive CodesRow (m : Micro) : Instr → Prop where
  | src : CodesRow m (srcRow m)
  | fn : CodesRow m (fnRow m)
  | dest : CodesRow m (destRow m)
  | ep (h : m.ep = true) : CodesRow m (.ep m)
  | cin : CodesRow m (cinRow m)
  | su (h : m.enSU = true) : CodesRow m (suRow m)
  | mem1 (h : m.mem = true) : CodesRow m (.memCycle1 m)
  | mem2 (h : m.mem = true) : CodesRow m (.memCycle2 m)
  | mem3 (h : m.mem = true) : CodesRow m (.memCycle3 m)
  | x : CodesRow m (xRow m)
  | byte {imm : BitVec 8} {zMode : BitVec 2} (h : m.planes = .byte imm zMode) : CodesRow m (.byteLit imm m)
  | y {y : YOp} {z : ZOp} (h : m.planes = .yz y z) : CodesRow m (yRow y m)
  | z {y : YOp} {z : ZOp} (h : m.planes = .yz y z) : CodesRow m (zRow z m)
  | goto : CodesRow m (.gotoInia m.inia m)

theorem mem_rowsOf_iff {m : Micro} {i : Instr} : i ∈ rowsOf m ↔ CodesRow m i := by
  simp only [rowsOf, List.mem_append, List.mem_cons, List.not_mem_nil, or_false, List.mem_ite_nil_right]
  constructor
  · rintro ((((((((rfl | rfl | rfl) | ⟨h, rfl⟩) | rfl) | ⟨h, rfl⟩) | ⟨h, rfl | rfl | rfl⟩) | rfl) | h) | rfl)
    · exact .src
    · exact .fn
    · exact .dest
    · exact .ep h
    · exact .cin
    · exact .su h
    · exact .mem1 h
    · exact .mem2 h
    · exact .mem3 h
    · exact .x
    · split at h
      · next hp =>
        obtain rfl := List.mem_singleton.mp h
        exact .byte hp
      · next hp =>
        obtain rfl | h := List.mem_cons.mp h
        · exact .y hp
        · obtain rfl := List.mem_singleton.mp h
          exact .z hp
    · exact .goto
  · intro h
    cases h with
    | byte h => simp [h]
    | y h => simp [h]
    | z h => simp [h]
    | _ => simp [*]

/-! ### Well-formed instructions are the rows of their microinstruction -/

theorem yNormRow_wellFormed {m : Micro} {op : YNorm} (h : m.planes.y? = some (.norm op)) :
    WellFormed (yNormRow op m) = true := by cases op <;> exact decide_eq_true h

theorem yBranchRow_wellFormed {m : Micro} {op : YBranch} (h : m.planes.y? = some (.branch op)) :
    WellFormed (yBranchRow op m) = true := by cases op <;> exact decide_eq_true h

theorem yOutRow_wellFormed {m : Micro} {port : BitVec 4} (h : m.planes.y? = some (.out port)) :
    WellFormed (yOutRow port m) = true := by
  obtain ⟨port⟩ := port
  fin_cases port <;> exact decide_eq_true h

theorem yRow_wellFormed {m : Micro} {y : YOp} (h : m.planes.y? = some y) : WellFormed (yRow y m) = true := by
  cases y with
  | norm op => exact yNormRow_wellFormed h
  | branch op => exact yBranchRow_wellFormed h
  | out port => exact yOutRow_wellFormed h

theorem zNormRow_wellFormed {m : Micro} {op : ZNorm} (h : m.planes.z? = some (.norm op)) :
    WellFormed (zNormRow op m) = true := by cases op <;> exact decide_eq_true h

theorem zInputRow_wellFormed {m : Micro} {op : ZInput} (h : m.planes.z? = some (.input op)) :
    WellFormed (zInputRow op m) = true := by cases op <;> exact decide_eq_true h

theorem zRow_wellFormed {m : Micro} {z : ZOp} (h : m.planes.z? = some z) : WellFormed (zRow z m) = true := by
  cases z with
  | norm op => exact zNormRow_wellFormed h
  | nibble imm => exact decide_eq_true h
  | uaddr lo => exact decide_eq_true h
  | input op => exact zInputRow_wellFormed h

theorem srcRow_wellFormed (m : Micro) : WellFormed (srcRow m) = true := by
  unfold srcRow
  split <;> exact decide_eq_true ‹_›

theorem fnRow_wellFormed (m : Micro) : WellFormed (fnRow m) = true := by
  unfold fnRow
  split <;> exact decide_eq_true ‹_›

theorem destRow_wellFormed (m : Micro) : WellFormed (destRow m) = true := by
  unfold destRow
  split
  · next hx =>
    have hop := (x_of_isShiftOrCycle hx).symm
    split <;> exact Bool.and_eq_true_iff.mpr ⟨decide_eq_true ‹_›, decide_eq_true hop⟩
  · next hx =>
    have hop : (!m.x.isShiftOrCycle) = true := by simpa using hx
    split <;> exact Bool.and_eq_true_iff.mpr ⟨decide_eq_true ‹_›, hop⟩

theorem cinRow_wellFormed (m : Micro) : WellFormed (cinRow m) = true := by
  unfold cinRow
  split_ifs with h
  · exact h
  · simpa [WellFormed] using h

theorem cinRow_micro (m : Micro) : (cinRow m).micro = m :=
  micro_ite withCin_of_eq fun h => withCin_of_eq (Bool.eq_false_iff.mpr h)

theorem suRow_wellFormed {m : Micro} (h : m.enSU = true) : WellFormed (suRow m) = true := by
  unfold suRow
  split <;> exact Bool.and_eq_true_iff.mpr ⟨h, decide_eq_true ‹_›⟩

theorem xRow_wellFormed (m : Micro) : WellFormed (xRow m) = true := by
  unfold xRow
  split
  · next i hx =>
    obtain ⟨i⟩ := i
    fin_cases i <;> exact decide_eq_true hx
  all_goals exact decide_eq_true ‹_›

/-- A row that `m` codes is well formed, and `m` is the microinstruction it stands for. -/
theorem CodesRow.wellFormed_micro {m : Micro} {i : Instr} (h : CodesRow m i) : WellFormed i = true ∧ i.micro = m := by
  cases h with
  | src => exact ⟨srcRow_wellFormed m, srcRow_micro m⟩
  | fn => exact ⟨fnRow_wellFormed m, fnRow_micro m⟩
  | dest => exact ⟨destRow_wellFormed m, destRow_micro m⟩
  | ep h => exact ⟨h, withEp_of_eq h⟩
  | cin => exact ⟨cinRow_wellFormed m, cinRow_micro m⟩
  | su h => exact ⟨suRow_wellFormed h, suRow_micro m h⟩
  | mem1 h => exact ⟨h, withMem_of_mem h⟩
  | mem2 h => exact ⟨h, withMem_of_mem h⟩
  | mem3 h => exact ⟨h, withMem_of_mem h⟩
  | x => exact ⟨xRow_wellFormed m, xRow_micro m⟩
  | byte h => exact ⟨decide_eq_true (by rw [h]; rfl), withByte_of_eq h⟩
  | y h => exact ⟨yRow_wellFormed (by rw [h]; rfl), (yRow_micro m _).trans (withY_of_eq h)⟩
  | z h => exact ⟨zRow_wellFormed (by rw [h]; rfl), (zRow_micro m _).trans (withZ_of_eq h)⟩
  | goto => exact ⟨decide_eq_true rfl, rfl⟩

/-! A plane's operation read back as the planes that code it. -/

theorem planes_of_y? {p : Planes} {y : YOp} (h : p.y? = some y) : ∃ z, p = .yz y z := by
  cases p with
  | byte imm zMode => cases h
  | yz y' z => exact ⟨z, by rw [Option.some.inj h]⟩

theorem planes_of_z? {p : Planes} {z : ZOp} (h : p.z? = some z) : ∃ y, p = .yz y z := by
  cases p with
  | byte imm zMode => cases h
  | yz y z' => exact ⟨y, by rw [Option.some.inj h]⟩

theorem planes_of_byte? {p : Planes} {imm : BitVec 8} (h : p.byte? = some imm) : ∃ zMode, p = .byte imm zMode := by
  cases p with
  | byte imm' zMode => exact ⟨zMode, by rw [Option.some.inj h]⟩
  | yz y z => cases h

theorem codesRow_of_y? {m : Micro} {y : YOp} (h : m.planes.y? = some y) : CodesRow (m.withY y) (yRow y m) := by
  obtain ⟨z, hp⟩ := planes_of_y? h
  rw [withY_of_eq hp]
  exact .y hp

theorem codesRow_of_z? {m : Micro} {z : ZOp} (h : m.planes.z? = some z) : CodesRow (m.withZ z) (zRow z m) := by
  obtain ⟨y, hp⟩ := planes_of_z? h
  rw [withZ_of_eq hp]
  exact .z hp

/-- Write-back codes 4 to 7: the row carries the shift-or-cycle bit of the X plane (R123). -/
theorem destRow_of_shiftOrCycle {m : Micro} {isCycle : Bool} (h : m.x = if isCycle then .cycle else .shift) :
    destRow m = (match m.aD with
      | .q => .dest4DoubleRight isCycle m
      | .none => .dest5SingleRight isCycle m
      | .ba => .dest6DoubleLeft isCycle m
      | .b => .dest7SingleLeft isCycle m) := by
  cases isCycle <;> rw [destRow, h] <;> rfl

theorem codesRow_of_eq {m n : Micro} {i j : Instr} (hn : n = m) (h : CodesRow m j) (hj : j = i) : CodesRow n i :=
  hn ▸ hj ▸ h

/-- Every well-formed instruction is one of the rows of the microinstruction it stands for. -/
theorem codesRow_of_wellFormed {i : Instr} (h : WellFormed i = true) : CodesRow i.micro i := by
  cases i with
  | srcAQ m | srcAB m | src0Q m | src0B m | src0A m | srcDA m | srcDQ m | srcD0 m =>
    have hp := of_decide_eq_true h
    exact codesRow_of_eq (withSrc_of_eq hp) .src (by rw [srcRow, hp])
  | fnADD m | fnSUBR m | fnSUBS m | fnOR m | fnAND m | fnNOTRS m | fnXOR m | fnXNOR m =>
    have hf := of_decide_eq_true h
    exact codesRow_of_eq (withFn_of_eq hf) .fn (by rw [fnRow, hf])
  | dest0Q m | dest1NONE m | dest2BA m | dest3B m =>
    obtain ⟨hd, hx⟩ := Bool.and_eq_true_iff.mp h
    have hd := of_decide_eq_true hd
    have hx := Bool.not_eq_true' _ ▸ hx
    exact codesRow_of_eq (withPlainDest_of_eq hd hx) .dest (by rw [destRow, hx, hd]; rfl)
  | dest4DoubleRight isCycle m | dest5SingleRight isCycle m | dest6DoubleLeft isCycle m | dest7SingleLeft isCycle m =>
    obtain ⟨hd, hx⟩ := Bool.and_eq_true_iff.mp h
    have hd := of_decide_eq_true hd
    have hx := of_decide_eq_true hx
    exact codesRow_of_eq (by rw [Instr.micro, Micro.withShiftDest, ← hd, ← hx]) .dest
      (by rw [destRow_of_shiftOrCycle hx, hd])
  | ep m => exact codesRow_of_eq (withEp_of_eq h) (.ep h) rfl
  | cin1 m => exact codesRow_of_eq (withCin_of_eq h) .cin (if_pos h)
  | cin0 m =>
    have hc : m.cin = false := Bool.not_eq_true' _ ▸ h
    exact codesRow_of_eq (withCin_of_eq hc) .cin (by rw [cinRow, hc]; rfl)
  | suWriteAQ m | suWriteAB m | suWrite0Q m | suWrite0B m | suWrite0A m | suReadDA m | suReadDQ m | suReadD0 m =>
    obtain ⟨hsu, hp⟩ := Bool.and_eq_true_iff.mp h
    have hp := of_decide_eq_true hp
    exact codesRow_of_eq (withSu_of_eq hsu hp) (.su hsu) (by rw [suRow, hp])
  | memCycle1 m => exact codesRow_of_eq (withMem_of_mem h) (.mem1 h) rfl
  | memCycle2 m => exact codesRow_of_eq (withMem_of_mem h) (.mem2 h) rfl
  | memCycle3 m => exact codesRow_of_eq (withMem_of_mem h) (.mem3 h) rfl
  | xLink0 m | xLink1 m | xLink2 m | xLink3 m | xLink4 m | xLink5 m | xLink6 m | xLink7 m =>
    have hx := of_decide_eq_true h
    exact codesRow_of_eq (withX_of_eq hx) .x (by rw [xRow, hx]; rfl)
  | xNoop m | xRHLoad m | xShift m | xCycle m | xCinPc16 m | xReserved m | xPop m | xPush m =>
    have hx := of_decide_eq_true h
    exact codesRow_of_eq (withX_of_eq hx) .x (by rw [xRow, hx])
  | yExitKernel m | yEnterKernel m | yClrIntErr m | yIBDisp m | yMesaIntRq m | yStackPLoad m | yIBLoad m | yReserved m
  | yNoop m | yMap m | yRefresh m | yPush m | yClrDPRq m | yClrIOPRq m | yClrKFlags m | yPop m | yNegBr m | yZeroBr m
  | yNZeroBr m | yMesaIntBr m | yPgCarryBr m | yCarryBr m | yXRefBr m | yNibCarryBr m | yXDisp m | yYDisp m
  | yXC2npcDisp m | yYIODisp m | yXwdDisp m | yXHDisp m | yXLDisp m | yPgCrOvDisp m | yIOPOData m | yIOPCtl m | yKOData m
  | yKCtl m | yEOData m | yEICtl m | yDCtlFifo m | yDCtl m | yDBorder m | yPCtl m | yMCtl m | yOut11 m | yEOCtl m
  | yKCmd m | yOut14 m | yPOData m =>
    have hrow := codesRow_of_y? (of_decide_eq_true h)
    exact hrow
  | byteLit imm m =>
    obtain ⟨zMode, hp⟩ := planes_of_byte? (of_decide_eq_true h)
    exact codesRow_of_eq (withByte_of_eq hp) (.byte hp) rfl
  | zRefresh m | zReserved1 m | zReserved2 m | zCinPc16 m | zReserved4 m | zPop m | zPush m | zAlwaysIBDisp m | zNoop m
  | zReserved9 m | zReservedA m | zReservedB m | zLRot0 m | zLRot12 m | zLRot8 m | zLRot4 m | nibLit imm m | uaddr lo m
  | zEIData m | zEStatus m | zKIData m | zKStatus m | zKStrobe m | zMStatus m | zKTest m | zEStrobe m | zIOPIData m
  | zIOPStatus m | zErrIBStk m | zRH m | zIbNA m | zIb m | zIbLow m | zIbHigh m =>
    have hrow := codesRow_of_z? (of_decide_eq_true h)
    exact hrow
  | gotoInia a m =>
    obtain rfl : m.inia = a := of_decide_eq_true h
    exact .goto

theorem codesRow_iff {m : Micro} {i : Instr} : CodesRow m i ↔ WellFormed i = true ∧ i.micro = m :=
  ⟨CodesRow.wellFormed_micro, fun ⟨hwf, hm⟩ => hm ▸ codesRow_of_wellFormed hwf⟩

theorem codesRow_ite {m : Micro} {c : Prop} [Decidable c] {i j : Instr} (hi : c → CodesRow m i)
    (hj : ¬ c → CodesRow m j) : CodesRow m (if c then i else j) := by
  split_ifs with h
  · exact hi h
  · exact hj h

/-- The decoder's choice is one of the rows (notes/assumptions/1.md). -/
theorem codesRow_principal (m : Micro) : CodesRow m (principal m) := by
  unfold principal
  refine codesRow_ite .su fun _ => codesRow_ite .mem1 fun _ => codesRow_ite .ep fun _ =>
    codesRow_ite (fun h => codesRow_of_eq rfl .cin (if_pos h)) fun _ => ?_
  split
  · next imm zMode hp => exact .byte hp
  · next y z hp =>
    exact codesRow_ite (fun _ => .y hp) fun _ => codesRow_ite (fun _ => .z hp) fun _ =>
      codesRow_ite (fun _ => .dest) fun _ => codesRow_ite (fun _ => .x) fun _ => codesRow_ite (fun _ => .dest) fun _ =>
      codesRow_ite (fun _ => .fn) fun _ => codesRow_ite (fun _ => .src) fun _ => .goto

theorem mem_decodeRows_iff {w : MWord} {i : Instr} : i ∈ decodeRows w ↔ CodesRow (decodeMicro w) i := mem_rowsOf_iff

theorem encode_eq_iff (i : Instr) (w : MWord) : encode i = w ↔ i.micro = decodeMicro w := encodeMicro_eq_iff i.micro w

theorem decode_mem_decodeRows (w : MWord) : decode w ∈ decodeRows w := mem_decodeRows_iff.mpr (codesRow_principal _)

/-- An instruction that a word decodes to encodes to the word. -/
theorem encode_of_mem_decodeRows {w : MWord} {i : Instr} (h : i ∈ decodeRows w) : encode i = w :=
  (encode_eq_iff i w).mpr (codesRow_iff.mp (mem_decodeRows_iff.mp h)).2

/-- Settles O5: the rows of a microinstruction are the well-formed instructions that stand for it, and words and
microinstructions correspond one to one. -/
theorem decodeRowsAreExactlyTheEncodedRows : Obligations.DecodeRowsAreExactlyTheEncodedRows := by
  refine ⟨fun w i => ?_, fun w => ⟨decode_mem_decodeRows w, ?_⟩⟩
  · rw [mem_decodeRows_iff, codesRow_iff, encode_eq_iff]
  · rw [encode_of_mem_decodeRows (decode_mem_decodeRows w)]

/-- Settles O9: both rows stand for the word's one microinstruction. -/
theorem rowsOfAWordShareOneMeaning : Obligations.RowsOfAWordShareOneMeaning := by
  intro w i j s hi hj
  have hmicro : i.micro = j.micro :=
    ((encode_eq_iff i w).mp (encode_of_mem_decodeRows hi)).trans ((encode_eq_iff j w).mp (encode_of_mem_decodeRows hj)).symm
  rw [Machine.exec_eq_runCycle, Machine.exec_eq_runCycle, hmicro]

/-! ### The opcode table -/

open Laws.EncodeSelectsRow in
/-- Every instruction's word satisfies the pattern of its row. -/
theorem encode_selects (i : Instr) : i.pattern.selects (encode i) = true := by
  cases i with
  | srcAQ m | srcAB m | src0Q m | src0B m | src0A m | srcDA m | srcDQ m | srcD0 m => exact src_row m _
  | fnADD m | fnSUBR m | fnSUBS m | fnOR m | fnAND m | fnNOTRS m | fnXOR m | fnXNOR m => exact fn_row m _
  | dest0Q m | dest1NONE m | dest2BA m | dest3B m => exact plainDest_row m _
  | dest4DoubleRight isCycle m | dest5SingleRight isCycle m | dest6DoubleLeft isCycle m | dest7SingleLeft isCycle m =>
    exact shiftDest_row m _ isCycle
  | ep m => exact ep_row m
  | cin1 m | cin0 m => exact cin_row m _
  | suWriteAQ m | suWriteAB m | suWrite0Q m | suWrite0B m | suWrite0A m | suReadDA m | suReadDQ m | suReadD0 m =>
    exact su_row m _
  | memCycle1 m | memCycle2 m | memCycle3 m => exact mem_row m
  | xLink0 m | xLink1 m | xLink2 m | xLink3 m | xLink4 m | xLink5 m | xLink6 m | xLink7 m | xNoop m | xRHLoad m
  | xShift m | xCycle m | xCinPc16 m | xReserved m | xPop m | xPush m => exact x_row m _
  | yExitKernel m | yEnterKernel m | yClrIntErr m | yIBDisp m | yMesaIntRq m | yStackPLoad m | yIBLoad m | yReserved m
  | yNoop m | yMap m | yRefresh m | yPush m | yClrDPRq m | yClrIOPRq m | yClrKFlags m | yPop m | yNegBr m | yZeroBr m
  | yNZeroBr m | yMesaIntBr m | yPgCarryBr m | yCarryBr m | yXRefBr m | yNibCarryBr m | yXDisp m | yYDisp m
  | yXC2npcDisp m | yYIODisp m | yXwdDisp m | yXHDisp m | yXLDisp m | yPgCrOvDisp m | yIOPOData m | yIOPCtl m | yKOData m
  | yKCtl m | yEOData m | yEICtl m | yDCtlFifo m | yDCtl m | yDBorder m | yPCtl m | yMCtl m | yOut11 m | yEOCtl m
  | yKCmd m | yOut14 m | yPOData m => exact y_row m _
  | byteLit imm m => exact byte_row m imm
  | zRefresh m | zReserved1 m | zReserved2 m | zCinPc16 m | zReserved4 m | zPop m | zPush m | zAlwaysIBDisp m | zNoop m
  | zReserved9 m | zReservedA m | zReservedB m | zLRot0 m | zLRot12 m | zLRot8 m | zLRot4 m
  | zEIData m | zEStatus m | zKIData m | zKStatus m | zKStrobe m | zMStatus m | zKTest m | zEStrobe m | zIOPIData m
  | zIOPStatus m | zErrIBStk m | zRH m | zIbNA m | zIb m | zIbLow m | zIbHigh m => exact zCode_row m _
  | nibLit imm m => exact zMode_row m (.nibble imm)
  | uaddr lo m => exact zMode_row m (.uaddr lo)
  | gotoInia a m => exact goto_row _

/-! The position of a field's row in the table is the field's first row plus its code. -/

section RowIx

variable (m : Micro)

theorem srcRow_rowIx : (srcRow m).rowIx = m.aS.code.toNat := by
  unfold srcRow
  cases m.aS <;> rfl

theorem fnRow_rowIx : (fnRow m).rowIx = 8 + m.aF.code.toNat := by
  unfold fnRow
  cases m.aF <;> rfl

theorem destRow_rowIx :
    (destRow m).rowIx = (if m.x.isShiftOrCycle then 20 else 16) + m.aD.code.toNat := by
  unfold destRow
  split <;> cases m.aD <;> rfl

theorem suRow_rowIx : (suRow m).rowIx = 27 + m.aS.code.toNat := by
  unfold suRow
  cases m.aS <;> rfl

theorem xRow_rowIx : (xRow m).rowIx = 38 + m.x.code.toNat := by
  unfold xRow
  cases m.x with
  | link i =>
    obtain ⟨i⟩ := i
    fin_cases i <;> rfl
  | _ => rfl

theorem yRow_rowIx (y : YOp) (z : ZOp) :
    (yRow y m).rowIx = 54 + 16 * (Planes.yz y z).yMode.toNat + (Planes.yz y z).fY.toNat := by
  cases y with
  | norm op => cases op <;> rfl
  | branch op => cases op <;> rfl
  | out port =>
    obtain ⟨port⟩ := port
    fin_cases port <;> rfl

/-- The position of a Z-plane row in the table: the literal and the U-address row stand for all sixteen codes. -/
def zRowIx (zMode fZ : Nat) : Nat :=
  match zMode with
  | 0 => 103 + fZ
  | 1 => 119
  | 2 => 120
  | _ => 121 + fZ

theorem zRow_rowIx (y : YOp) (z : ZOp) :
    (zRow z m).rowIx = zRowIx (Planes.yz y z).zMode.toNat (Planes.yz y z).fZ.toNat := by
  cases z with
  | norm op => cases op <;> rfl
  | nibble imm => rfl
  | uaddr lo => rfl
  | input op => cases op <;> rfl

end RowIx

/-! ### The fields a word is decoded to -/

section Fields

variable {w : MWord}

theorem decodeMicro_aS_code (w : MWord) : (decodeMicro w).aS.code = w.extractLsb' 37 3 := SrcPair.code_ofCode _

theorem decodeMicro_aF_code (w : MWord) : (decodeMicro w).aF.code = w.extractLsb' 34 3 := AluFn.code_ofCode _

theorem decodeMicro_aD_code (w : MWord) : (decodeMicro w).aD.code = w.extractLsb' 32 2 := WbSel.code_ofCode _

theorem decodeMicro_x_code (w : MWord) : (decodeMicro w).x.code = w.extractLsb' 16 4 := XOp.code_ofCode _

theorem decodeMicro_isShiftOrCycle (w : MWord) :
    (decodeMicro w).x.isShiftOrCycle = decide ((w.extractLsb' 17 3).toNat = 5) := by
  rw [XOp.isShiftOrCycle_code, ← encodeMicro_fXHigh, encodeMicro_decodeMicro]

theorem bitAt_of_toNat {i : Nat} {b : Bool} (h : (w.extractLsb' i 1).toNat = b.toNat) : bitAt w i = b :=
  bitAt_eq_of_extract (BitVec.eq_of_toNat_eq (by rw [h, BitVec.toNat_ofBool]))

/-- Outside `yMode` 3 the word codes a Y plane and a Z plane, with the fields of the word (R99). -/
theorem decodeMicro_planes_yz (h : (w.extractLsb' 26 2).toNat ≠ 3) :
    ∃ y z, (decodeMicro w).planes = .yz y z ∧ (Planes.yz y z).yMode = w.extractLsb' 26 2
      ∧ (Planes.yz y z).zMode = w.extractLsb' 24 2 ∧ (Planes.yz y z).fY = w.extractLsb' 20 4
      ∧ (Planes.yz y z).fZ = w.extractLsb' 12 4 := by
  have hfields := Planes.fields_ofFields (w.extractLsb' 26 2) (w.extractLsb' 24 2) (w.extractLsb' 20 4)
    (w.extractLsb' 12 4)
  cases hp : (decodeMicro w).planes with
  | byte imm zMode =>
    rw [← hfields.1] at h
    exact absurd (congrArg (fun p => p.yMode.toNat) hp) h
  | yz y z => exact ⟨y, z, rfl, hp ▸ hfields⟩

theorem decodeMicro_planes_byte (h : (w.extractLsb' 26 2).toNat = 3) :
    ∃ imm zMode, (decodeMicro w).planes = .byte imm zMode := by
  refine ⟨w.extractLsb' 20 4 ++ w.extractLsb' 12 4, w.extractLsb' 24 2, ?_⟩
  simp only [decodeMicro, Planes.ofFields, h]

end Fields

/-! ### What a pattern asks of a word -/

theorem selects_one_iff {lo len v : Nat} {w : MWord} :
    RowPattern.selects ⟨[⟨lo, len, v⟩], none⟩ w = true ↔ (w.extractLsb' lo len).toNat = v := by
  simp [RowPattern.selects, FixedField.holds_mk]

theorem selects_two_iff {lo len v lo' len' v' : Nat} {w : MWord} :
    RowPattern.selects ⟨[⟨lo, len, v⟩, ⟨lo', len', v'⟩], none⟩ w = true
      ↔ (w.extractLsb' lo len).toNat = v ∧ (w.extractLsb' lo' len').toNat = v' := by
  simp [RowPattern.selects, FixedField.holds_mk]

theorem selects_excluding_iff {fs : List FixedField} {lo len v : Nat} {w : MWord} :
    RowPattern.selects ⟨fs, some ⟨lo, len, v⟩⟩ w = true
      ↔ RowPattern.selects ⟨fs, none⟩ w = true ∧ (w.extractLsb' lo len).toNat ≠ v := by
  simp [RowPattern.selects, FixedField.holds_mk]

/-- A row whose pattern the word satisfies is the row of one of the word's instructions. -/
theorem exists_codesRow_of_selects {w : MWord} {i : Instr} (h : i.pattern.selects w = true) :
    ∃ j, CodesRow (decodeMicro w) j ∧ j.rowIx = i.rowIx := by
  cases i with
  | srcAQ m | srcAB m | src0Q m | src0B m | src0A m | srcDA m | srcDQ m | srcD0 m =>
    have hs := selects_one_iff.mp h
    exact ⟨_, .src, by rw [srcRow_rowIx, decodeMicro_aS_code, hs]; rfl⟩
  | fnADD m | fnSUBR m | fnSUBS m | fnOR m | fnAND m | fnNOTRS m | fnXOR m | fnXNOR m =>
    have hf := selects_one_iff.mp h
    exact ⟨_, .fn, by rw [fnRow_rowIx, decodeMicro_aF_code, hf]; rfl⟩
  | dest0Q m | dest1NONE m | dest2BA m | dest3B m =>
    obtain ⟨hd, hx⟩ := selects_excluding_iff.mp h
    have hd := selects_one_iff.mp hd
    exact ⟨_, .dest, by
      rw [destRow_rowIx, decodeMicro_isShiftOrCycle, decide_eq_false hx, decodeMicro_aD_code, hd]; rfl⟩
  | dest4DoubleRight isCycle m | dest5SingleRight isCycle m | dest6DoubleLeft isCycle m | dest7SingleLeft isCycle m =>
    obtain ⟨hd, hx⟩ := selects_two_iff.mp h
    exact ⟨_, .dest, by
      rw [destRow_rowIx, decodeMicro_isShiftOrCycle, decide_eq_true hx, decodeMicro_aD_code, hd]; rfl⟩
  | ep _ => exact ⟨_, .ep (bitAt_of_toNat (selects_one_iff.mp h)), rfl⟩
  | cin1 _ =>
    have hc : (decodeMicro w).cin = true := bitAt_of_toNat (selects_one_iff.mp h)
    exact ⟨_, .cin, by rw [cinRow, hc]; rfl⟩
  | cin0 _ =>
    have hc : (decodeMicro w).cin = false := bitAt_of_toNat (selects_one_iff.mp h)
    exact ⟨_, .cin, by rw [cinRow, hc]; rfl⟩
  | suWriteAQ m | suWriteAB m | suWrite0Q m | suWrite0B m | suWrite0A m | suReadDA m | suReadDQ m | suReadD0 m =>
    obtain ⟨hsu, hs⟩ := selects_two_iff.mp h
    exact ⟨_, .su (bitAt_of_toNat hsu), by rw [suRow_rowIx, decodeMicro_aS_code, hs]; rfl⟩
  | memCycle1 _ => exact ⟨_, .mem1 (bitAt_of_toNat (selects_one_iff.mp h)), rfl⟩
  | memCycle2 _ => exact ⟨_, .mem2 (bitAt_of_toNat (selects_one_iff.mp h)), rfl⟩
  | memCycle3 _ => exact ⟨_, .mem3 (bitAt_of_toNat (selects_one_iff.mp h)), rfl⟩
  | xLink0 m | xLink1 m | xLink2 m | xLink3 m | xLink4 m | xLink5 m | xLink6 m | xLink7 m | xNoop m | xRHLoad m
  | xShift m | xCycle m | xCinPc16 m | xReserved m | xPop m | xPush m =>
    have hx := selects_one_iff.mp h
    exact ⟨_, .x, by rw [xRow_rowIx, decodeMicro_x_code, hx]; rfl⟩
  | yExitKernel m | yEnterKernel m | yClrIntErr m | yIBDisp m | yMesaIntRq m | yStackPLoad m | yIBLoad m | yReserved m
  | yNoop m | yMap m | yRefresh m | yPush m | yClrDPRq m | yClrIOPRq m | yClrKFlags m | yPop m | yNegBr m | yZeroBr m
  | yNZeroBr m | yMesaIntBr m | yPgCarryBr m | yCarryBr m | yXRefBr m | yNibCarryBr m | yXDisp m | yYDisp m
  | yXC2npcDisp m | yYIODisp m | yXwdDisp m | yXHDisp m | yXLDisp m | yPgCrOvDisp m | yIOPOData m | yIOPCtl m | yKOData m
  | yKCtl m | yEOData m | yEICtl m | yDCtlFifo m | yDCtl m | yDBorder m | yPCtl m | yMCtl m | yOut11 m | yEOCtl m
  | yKCmd m | yOut14 m | yPOData m =>
    obtain ⟨hfY, hyMode⟩ := selects_two_iff.mp h
    obtain ⟨y, z, hp, hy, -, hf, -⟩ := decodeMicro_planes_yz (w := w) (by rw [hyMode]; decide)
    exact ⟨_, .y hp, by rw [yRow_rowIx _ y z, hy, hf, hyMode, hfY]; rfl⟩
  | byteLit _ _ =>
    obtain ⟨_, _, hp⟩ := decodeMicro_planes_byte (selects_one_iff.mp h)
    exact ⟨_, .byte hp, rfl⟩
  | zRefresh m | zReserved1 m | zReserved2 m | zCinPc16 m | zReserved4 m | zPop m | zPush m | zAlwaysIBDisp m | zNoop m
  | zReserved9 m | zReservedA m | zReservedB m | zLRot0 m | zLRot12 m | zLRot8 m | zLRot4 m
  | zEIData m | zEStatus m | zKIData m | zKStatus m | zKStrobe m | zMStatus m | zKTest m | zEStrobe m | zIOPIData m
  | zIOPStatus m | zErrIBStk m | zRH m | zIbNA m | zIb m | zIbLow m | zIbHigh m =>
    obtain ⟨hz, hyMode⟩ := selects_excluding_iff.mp h
    obtain ⟨hfZ, hzMode⟩ := selects_two_iff.mp hz
    obtain ⟨y, z, hp, -, hm, -, hf⟩ := decodeMicro_planes_yz hyMode
    exact ⟨_, .z hp, by rw [zRow_rowIx _ y z, hm, hf, hzMode, hfZ]; rfl⟩
  | nibLit _ _ | uaddr _ _ =>
    obtain ⟨hz, hyMode⟩ := selects_excluding_iff.mp h
    have hzMode := selects_one_iff.mp hz
    obtain ⟨y, z, hp, -, hm, -, -⟩ := decodeMicro_planes_yz hyMode
    exact ⟨_, .z hp, by rw [zRow_rowIx _ y z, hm, hzMode]; rfl⟩
  | gotoInia _ _ => exact ⟨_, .goto, rfl⟩

/-- Settles O6: an instruction's word selects its own row, and a selected row is found at its position in the table. -/
theorem decoderFollowsTheOpcodeTable : Obligations.DecoderFollowsTheOpcodeTable := by
  refine fun w => ⟨fun i hi => ?_, fun i hi => ?_⟩
  · rw [← encode_of_mem_decodeRows hi]
    exact encode_selects i
  · obtain ⟨j, hj, hix⟩ := exists_codesRow_of_selects hi
    exact ⟨j, mem_decodeRows_iff.mpr hj, hix⟩

end Sys2Proof
end

section
/-! SUPPORT. The proofs of the statements about the fields that a cycle ignores or leaves idle: the parity bit, the shift
rows, the literals, and the idle and reserved codes of the three planes. -/

namespace Sys2Proof.Machine

/-! ### Codes that no decoder predicate tells apart -/

/-- Settles O21: no operand of a cycle reads the parity bit (30_encoding.md R95), so the two cycles are the same by
definition. -/
theorem parityBitIsNeverRead : Obligations.ParityBitIsNeverRead := by
  have hep : ∀ (m : Micro) (s : State) (b : Bool), runCycle (m.withEp b) s = runCycle m s := fun _ _ _ => rfl
  refine ⟨fun w => rfl, hep, fun m s hruns => ⟨cycleNext m s, ?_, ?_⟩⟩
  · rw [exec_eq_runCycle, Instr.micro, hep, runCycle_of_runs hruns]
  · rw [hep, runCycle_of_runs hruns]

/-- The reserved code of the X plane acts as its Noop (R112). -/
theorem runCycle_withX_reserved (m : Micro) (s : State) :
    runCycle (m.withX .reserved) s = runCycle (m.withX .noop) s := rfl

/-- The reserved code of the Y plane acts as its Noop, whatever the Z plane codes. -/
theorem runCycle_withY_reserved (m : Micro) (s : State) :
    runCycle (m.withY (.norm .reserved)) s = runCycle (m.withY (.norm .noop)) s := by
  simp only [Micro.withY]
  generalize m.planes.z?.getD (.norm .noop) = z
  cases z <;> rfl

/-- The six reserved codes of the Z plane (R109). -/
def ZNorm.reserved : List ZNorm := [.reserved1, .reserved2, .reserved4, .reserved9, .reservedA, .reservedB]

theorem runCycle_withZ_reserved {op : ZNorm} (h : op ∈ ZNorm.reserved) (m : Micro) (s : State) :
    runCycle (m.withZ (.norm op)) s = runCycle (m.withZ (.norm .noop)) s := by
  simp only [ZNorm.reserved, List.mem_cons, List.not_mem_nil, or_false] at h
  rcases h with rfl | rfl | rfl | rfl | rfl | rfl <;> rfl

/-! ### Write-back codes (R123) -/

theorem dest_eq (m : Micro) :
    m.dest = (if m.x = .shift ∨ m.x = .cycle then
        (match m.aD with | .q => .doubleRight | .none => .singleRight | .ba => .doubleLeft | .b => .singleLeft)
      else (match m.aD with | .q => .q | .none => .none | .ba => .ba | .b => .b)) := by
  have hcode : (m.isShift || m.isCycle) = true ↔ m.x = .shift ∨ m.x = .cycle := by simp [Micro.isShift, Micro.isCycle]
  exact if_congr hcode rfl rfl

/-- Coding shift or cycle codes the write-back row that `aD` selects (R185, R186). -/
theorem withShiftDest_aD (m : Micro) (isCycle : Bool) :
    m.withShiftDest m.aD isCycle = m.withX (if isCycle then .cycle else .shift) := rfl

/-- Settles O19: the row and the write-back row it stands for code one microinstruction. -/
theorem shiftAndCycleSelectTheWriteBackCode : Obligations.ShiftAndCycleSelectTheWriteBackCode := by
  refine ⟨fun m s y hruns => ⟨cycleNext (m.withX (if y then .cycle else .shift)) s, ?_, ?_⟩, dest_eq⟩
  · have hmicro : (if y then Instr.xCycle m else .xShift m).micro = m.withX (if y then .cycle else .shift) := by
      cases y <;> rfl
    rw [← hmicro]
    exact exec_of_runs (by rwa [hmicro])
  · rw [exec_eq_runCycle, ← runCycle_of_runs hruns, ← withShiftDest_aD]
    cases m.aD <;> rfl

/-! ### What a cycle leaves where a plane codes nothing -/

section Idle

variable (m : Micro) (s : State)

theorem emitted_of_filter {p : Event → Bool} {l : List Event} (h : (cycleEvents m s).filter p = l) :
    Emitted s (cycleNext m s) p l := h ▸ emitted_cycleNext m s p

/-- Away from an Emulator click end the modifier is the OR of this cycle's contributors (44_y_branch.md R287). -/
theorem modifierOf_cycleNext_of_not_clickEnd (h : ¬ EmulatorClickEnd s) :
    modifierOf (cycleNext m s) s.curTask
      = yBits m s ||| (if pageCrossNow m s then 2 else 0) ||| linkBits m s := by
  rw [modifierOf_cycleNext, if_neg (fun hfire => h ⟨hfire.1, hfire.2.1⟩)]
  rfl

theorem yBits_of_no_branch (h : m.branch? = none) : yBits m s = 0#4 := by
  rw [yBits, h]; rfl

theorem linkBits_of_no_link (h : m.linkIndex = none) : linkBits m s = 0#4 := by
  rw [linkBits, h]; rfl

theorem nextLink_of_no_link (h : m.linkIndex = none) : nextLink m s = s.link := by
  rw [nextLink, h]

theorem nextRh_of_not_rhLoad (h : m.x ≠ .rhLoad) : nextRh m s = s.rh := if_neg h

/-- Without an effective override the carry-in is the raw bit (40_alu.md R180, R181). -/
theorem carryIn_of_no_toggle (h : m.cinToggle = false) :
    effCin m s = m.cin ∧ (cycleNext m s).pc16 = s.pc16 := by
  simp [effCin, h]

/-- Write-back codes 0 to 3: `aD` alone says where F goes (R171 to R174). -/
theorem writeback_of_not_shift (h : ¬ (m.x = .shift ∨ m.x = .cycle)) :
    nextR m s = (if m.aD = .ba ∨ m.aD = .b then wr s.r m.rB (aluF m s) else s.r)
      ∧ nextQ m s = (if m.aD = .q then aluF m s else s.q) := by
  have hdest := dest_eq m
  rw [if_neg h] at hdest
  cases hd : m.aD <;> rw [hd] at hdest <;> simp [nextR, writeR, nextQ, hdest]

/-! The cause of a stack operation and the cause of an Empty buffer (60_exceptions.md R401). -/

theorem stackOverUnderflow_mem_cycleRaises_iff :
    Cause.stackOverUnderflow ∈ cycleRaises m s ↔ stackRaise m s = true := by simp [cycleRaises]

theorem ibEmpty_mem_cycleRaises_iff : Cause.ibEmpty ∈ cycleRaises m s ↔ ibRaise m s = true := by simp [cycleRaises]

theorem cycleNext_stackCause :
    (cycleNext m s).errSet.stack = ((s.errSet.stack && !m.clrIntErr) || stackRaise m s) := by
  have h := cycleNext_errSet_has m s .stackOverUnderflow
  simp only [stackOverUnderflow_mem_cycleRaises_iff, Bool.decide_eq_true] at h
  exact h

theorem cycleNext_ibCause :
    (cycleNext m s).errSet.ib = ((s.errSet.ib && !m.clrIntErr) || ibRaise m s) := by
  have h := cycleNext_errSet_has m s .ibEmpty
  simp only [ibEmpty_mem_cycleRaises_iff, Bool.decide_eq_true] at h
  exact h

theorem pushCount_eq_zero (hx : m.pushX = false) (hy : m.pushY = false) (hz : m.pushZ = false) : m.pushCount = 0 := by
  rw [Micro.pushCount, hx, hy, hz]; rfl

theorem popCount_eq_zero (hx : m.popX = false) (hy : m.popY = false) (hz : m.popZ = false) : m.popCount = 0 := by
  rw [Micro.popCount, hx, hy, hz]; rfl

/-- Without push, pop and direct load the stack pointer stays and no stack test is made (47_stack.md R333 to R336). -/
theorem stack_of_idle (hpush : m.pushCount = 0) (hpop : m.popCount = 0) (hload : m.loadStackP = false) :
    (cycleNext m s).stackP = s.stackP ∧ (cycleNext m s).errSet.stack = (s.errSet.stack && !m.clrIntErr) := by
  have hraise : stackRaise m s = false := by
    simp [stackRaise, Micro.testOverflow, Micro.testUnderflow, Micro.testDoubleUnderflow, Micro.pushes, hpush, hpop]
  exact ⟨by rw [cycleNext_stackP, nextStackP_frame m s hpush hpop hload],
    by rw [cycleNext_stackCause, hraise, Bool.or_false]⟩

/-- A peek form and a forced dispatch are the only tests of an Empty buffer (46_ib.md R320). -/
theorem ibCause_of_idle (hpeek : m.peeks = false) (hdisp : m.alwaysDisp = false) :
    (cycleNext m s).errSet.ib = (s.errSet.ib && !m.clrIntErr) := by
  have hraise : ibRaise m s = false := by simp [ibRaise, hpeek, hdisp]
  rw [cycleNext_ibCause, hraise, Bool.or_false]

/-- The forms that advance are peek forms (41_bus_input.md R210, R211). -/
theorem peekAdvances_of_not_peeks (h : m.peeks = false) : m.peekAdvances = false := by
  unfold Micro.peeks at h
  unfold Micro.peekAdvances
  cases hop : m.input? with
  | none => rfl
  | some op =>
    rw [hop] at h
    cases op with
    | ib => cases h
    | ibLow => cases h
    | _ => rfl

/-! Events of the planes. -/

theorem zEvents_of_no_refresh (h : m.zNormIs .refresh = false) : zEvents m = [] := by simp [zEvents, h]

theorem yEvents_of_no_refresh (h : m.yNormIs .refresh = false) : (yEvents m s).filter Event.isRefresh = [] := by
  have hop : m.planes.y? ≠ some (.norm .refresh) := of_decide_eq_false h
  unfold yEvents
  split
  · rfl
  · rfl
  · rfl
  · rfl
  · next hy => exact absurd hy hop
  · rfl

theorem strobeEvents_of_no_input (h : m.input? = none) : strobeEvents m = [] := by simp [strobeEvents, h]

/-- Without a literal, an input and a rotate the X bus takes the SU read, then the memory read (41_bus_input.md R190). -/
theorem xBus_of_idle_z (hconst : m.const? = none) (hrot : m.rotAmount = none) (hinput : m.input? = none) :
    xBus m s = (if m.suRead = true then rd s.su (suAddr m s)
      else if m.mem = true ∧ s.cycle = .c3 then (dataRead s).value else s.params.xbusIdle) := by
  rw [xBus_of_no_plane_source hconst hrot (by simp [hinput])]
  split_ifs with hsu hmem
  · rw [suSource_of_suRead hsu]
    rfl
  · rw [suSource_eq_none (Bool.eq_false_iff.mpr hsu), memSource_of_c3 hmem.1 hmem.2]
    rfl
  · have hnone : memSource m s = none := by simpa [memSource] using hmem
    rw [suSource_eq_none (Bool.eq_false_iff.mpr hsu), hnone]
    rfl

end Idle

/-! ### Literals (R104, R191, R192) -/

theorem busByte_nibble (n : Nibble) : busByte (0#4 ++ n) = 0#12 ++ n := by
  revert n
  decide

/-- Byte mode codes no Y plane and no Z plane: their registers stay, and only memory staging emits events. -/
theorem byteMode_effects (m : Micro) (imm : BitVec 8) {s t : State} (ht : t = cycleNext (m.withByte imm) s) :
    t.mint = s.mint ∧ t.wake = s.wake ∧ t.errSet.ib = s.errSet.ib ∧ t.ib = s.ib
      ∧ Emitted s t (fun e => !e.isBus) [] := by
  subst ht
  refine ⟨?_, ?_, ?_, ?_, emitted_of_filter _ s ?_⟩
  · rw [cycleNext_mint, nextMint_frame _ s rfl rfl]
  · rw [cycleNext_wake, nextWake_frame _ s rfl rfl]
  · rw [ibCause_of_idle _ s rfl rfl]
    exact Bool.and_true _
  · rw [cycleNext_ib, nextIb_frame _ s rfl rfl rfl]
  · have hmem := memEvents_kind (m.withByte imm) s
    have hevents : cycleEvents (m.withByte imm) s = memEvents (m.withByte imm) s :=
      (List.append_nil _).trans (List.append_nil _)
    rw [hevents]
    exact filter_none fun e he => by rw [(hmem e he).2.1]; rfl

/-- Settles O25: a literal is the first source of the X bus (R190), and byte mode leaves both planes out of the cycle. -/
theorem literalRowsComplete : Obligations.LiteralRowsComplete := by
  refine ⟨fun m s imm => ?_, fun m s imm => ⟨busByte_nibble imm, fun y hy => ?_, fun hruns => ?_⟩⟩
  · have hexec : exec (.byteLit imm m) s = .next (cycleNext (m.withByte imm) s) := exec_of_runs (runs_of_not_ibLoad rfl)
    obtain ⟨hmint, hwake, hib, hbuf, hevents⟩ := byteMode_effects m imm (s := s) rfl
    refine ⟨rfl, _, hexec, hmint, hwake, hib, congrArg IbData.ptr hbuf, congrArg IbData.front hbuf,
      congrArg IbData.pair hbuf, hevents, fun hend => ?_⟩
    rw [modifierOf_cycleNext_of_not_clickEnd _ s hend, yBits_of_no_branch _ s rfl, BitVec.zero_or]
  · rw [Micro.withZ, hy]; rfl
  · exact ⟨_, exec_of_runs (i := .nibLit imm m) hruns, emitted_of_filter _ s (by rw [cycleEvents_isStrobe]; rfl)⟩

/-! ### Idle and reserved codes (R111, R112) -/

/-- An idle X plane: no link, no RH load, no shift, no carry override, no stack operation (R105). -/
theorem xNoop_effects {m : Micro} (hx : m.x = .noop) {s t : State} (ht : t = cycleNext m s) :
    t.link = s.link ∧ t.rh = s.rh
      ∧ t.r = (if m.aD = .ba ∨ m.aD = .b then wr s.r m.rB (aluF m s) else s.r)
      ∧ t.q = (if m.aD = .q then aluF m s else s.q)
      ∧ (¬ EmulatorClickEnd s → modifierOf t s.curTask = yBits m s ||| (if pageCrossNow m s then 2 else 0))
      ∧ (¬ (m.cinToggleZ = true ∧ m.cin = true) → effCin m s = m.cin ∧ t.pc16 = s.pc16)
      ∧ (m.pushY = false → m.pushZ = false → m.popY = false → m.popZ = false → m.loadStackP = false →
          t.stackP = s.stackP ∧ t.errSet.stack = (s.errSet.stack && !m.clrIntErr))
      ∧ (m.planes = .yz (.norm .noop) (.norm .noop) → m.mem = false → t.events = s.events) := by
  subst ht
  have hlink : m.linkIndex = none := by rw [Micro.linkIndex, hx]
  obtain ⟨hr, hq⟩ := writeback_of_not_shift m s (by rw [hx]; decide)
  refine ⟨?_, ?_, ?_, ?_, fun hend => ?_, fun hz => ?_, fun hpushY hpushZ hpopY hpopZ hload => ?_, fun hp hm => ?_⟩
  · rw [cycleNext_link, nextLink_of_no_link m s hlink]
  · rw [cycleNext_rh, nextRh_of_not_rhLoad m s (by rw [hx]; decide)]
  · rw [cycleNext_r, hr]
  · rw [cycleNext_q, hq]
  · rw [modifierOf_cycleNext_of_not_clickEnd m s hend, linkBits_of_no_link m s hlink, BitVec.or_zero]
  · exact carryIn_of_no_toggle m s (by simpa [Micro.cinToggle, Micro.cinToggleX, hx] using hz)
  · exact stack_of_idle m s (pushCount_eq_zero m (by rw [Micro.pushX, hx]; rfl) hpushY hpushZ)
      (popCount_eq_zero m (by rw [Micro.popX, hx]; rfl) hpopY hpopZ) hload
  · have hevents : cycleEvents m s = [] := by
      simp [cycleEvents, strobeEvents, memEvents, yEvents, zEvents, Micro.input?, Micro.zNormIs, hp, hm, Planes.y?,
        Planes.z?]
    rw [cycleNext_events, hevents, List.append_nil]

/-- An idle Y plane: no control operation, no branch, no device write (R106 to R108). -/
theorem yNoop_effects {m n : Micro} (hn : n = m.withY (.norm .noop)) {s t : State} (ht : t = cycleNext n s) :
    t.wake = s.wake ∧ t.waiting = s.waiting ∧ t.mint = s.mint
      ∧ (s.cycle ≠ .c3 → t.kernelExit = s.kernelExit)
      ∧ (∀ c, s.errSet.has c = true → t.errSet.has c = true)
      ∧ Emitted s t (fun e => e.isDeviceWrite || e.isClear) []
      ∧ (n.zNormIs .refresh = false → Emitted s t Event.isRefresh [])
      ∧ (n.mem = true → s.cycle = .c1 →
          Emitted s t Event.isBus [.loadAddressRegister .physical (rd s.rh n.rB ++ yBus n s)])
      ∧ (¬ EmulatorClickEnd s → modifierOf t s.curTask = (if pageCrossNow n s then 2 else 0) ||| linkBits n s)
      ∧ (n.alwaysDisp = false → t.pendKind = .plain ∧ (n.peeks = false → t.ib = s.ib ∧ t.errSet.ib = s.errSet.ib))
      ∧ (n.pushX = false → n.pushZ = false → n.popX = false → n.popZ = false →
          t.stackP = s.stackP ∧ t.errSet.stack = s.errSet.stack) := by
  subst ht
  have hclr : n.clrIntErr = false := by rw [hn]; rfl
  have henter : n.enterKernel = false := by rw [hn]; rfl
  have hexit : exitNow n s = false := by rw [hn]; rfl
  have hy : yEvents n s = [] := by rw [hn]; rfl
  have hdisp : n.alwaysDisp = false → n.ibDispRequest = false := fun h => by rw [Micro.ibDispRequest, h, hn]; rfl
  refine ⟨?_, ?_, ?_, fun hc => ?_, fun c hc => ?_, emitted_of_filter n s ?_, fun hz => emitted_of_filter n s ?_,
    fun hm hc => emitted_of_filter n s ?_, fun hend => ?_, fun ha => ⟨?_, fun hpeek => ⟨?_, ?_⟩⟩,
    fun hpushX hpushZ hpopX hpopZ => ?_⟩
  · rw [cycleNext_wake, nextWake_frame n s hexit henter]
  · rw [cycleNext_waiting, henter]
    exact Bool.and_true _
  · rw [cycleNext_mint, nextMint_frame n s hclr (by rw [hn]; rfl)]
  · rw [cycleNext_kernelExit_of_ne_c3 n s hc, hexit, Bool.or_false]
  · rw [cycleNext_errSet_has, hc, hclr]
    rfl
  · have hwrite := cycleEvents_isDeviceWrite n s
    have hclear := cycleEvents_isClear n s
    rw [hy, List.filter_nil, List.filter_eq_nil_iff] at hwrite hclear
    exact List.filter_eq_nil_iff.mpr fun e he => by simp [hwrite e he, hclear e he]
  · rw [cycleEvents_isRefresh, hy, zEvents_of_no_refresh n hz]
    rfl
  · have hmap : n.mapLoad = false := by rw [hn]; rfl
    rw [cycleEvents_isBus, memEvents, hm, hc, hmap]
    rfl
  · have hbranch : n.branch? = none := by rw [hn]; rfl
    rw [modifierOf_cycleNext_of_not_clickEnd n s hend, yBits_of_no_branch n s hbranch, BitVec.zero_or]
  · exact cycleNext_pendKind_plain n s (hdisp ha)
  · rw [cycleNext_ib, nextIb_frame n s (by rw [hn]; rfl) (peekAdvances_of_not_peeks n hpeek) (hdisp ha)]
  · rw [ibCause_of_idle n s hpeek ha, hclr]
    exact Bool.and_true _
  · obtain ⟨hptr, hcause⟩ := stack_of_idle n s (pushCount_eq_zero n hpushX (by rw [hn]; rfl) hpushZ)
      (popCount_eq_zero n hpopX (by rw [hn]; rfl) hpopZ) (by rw [hn]; rfl)
    refine ⟨hptr, ?_⟩
    rw [hcause, hclr]
    exact Bool.and_true _

/-- An idle Z plane: no input, no rotate, no literal, no U-address, no stack or buffer operation (R109, R110). -/
theorem zNoop_effects {m n : Micro} (hn : n = m.withZ (.norm .noop)) {s t : State} (ht : t = cycleNext n s) :
    Emitted s t Event.isStrobe [] ∧ (n.yNormIs .refresh = false → Emitted s t Event.isRefresh [])
      ∧ suAddr n s = 0#4 ++ s.stackP
      ∧ xBus n s = (if n.suRead = true then rd s.su (0#4 ++ s.stackP)
          else if n.mem = true ∧ s.cycle = .c3 then (rd s.inputs.data s.curTask.id).value else s.params.xbusIdle)
      ∧ (n.cinToggleX = false → effCin n s = n.cin ∧ t.pc16 = s.pc16)
      ∧ (n.yNormIs .ibDisp = false → t.pendKind = .plain ∧ (n.ibLoad = false → t.ib = s.ib))
      ∧ t.errSet.ib = (s.errSet.ib && !n.clrIntErr)
      ∧ (n.pushX = false → n.pushY = false → n.popX = false → n.popY = false → n.loadStackP = false →
          t.stackP = s.stackP ∧ t.errSet.stack = (s.errSet.stack && !n.clrIntErr)) := by
  subst ht
  have hinput : n.input? = none := by rw [hn]; rfl
  have hsu : suAddr n s = 0#4 ++ s.stackP := by rw [hn]; rfl
  have hdisp : n.yNormIs .ibDisp = false → n.ibDispRequest = false := fun h => by rw [Micro.ibDispRequest, h, hn]; rfl
  refine ⟨emitted_of_filter n s ?_, fun hy => emitted_of_filter n s ?_, hsu, ?_, fun hx => ?_,
    fun hy => ⟨?_, fun hload => ?_⟩, ?_, fun hpushX hpushY hpopX hpopY hload => ?_⟩
  · rw [cycleEvents_isStrobe, strobeEvents_of_no_input n hinput]
  · rw [cycleEvents_isRefresh, yEvents_of_no_refresh n s hy, zEvents_of_no_refresh n (by rw [hn]; rfl)]
    rfl
  · rw [← hsu]
    exact xBus_of_idle_z n s (by rw [hn]; rfl) (by rw [hn]; rfl) hinput
  · exact carryIn_of_no_toggle n s (by rw [Micro.cinToggle, hx, hn]; rfl)
  · exact cycleNext_pendKind_plain n s (hdisp hy)
  · rw [cycleNext_ib, nextIb_frame n s hload (by rw [hn]; rfl) (hdisp hy)]
  · exact ibCause_of_idle n s (by rw [hn]; rfl) (by rw [hn]; rfl)
  · exact stack_of_idle n s (pushCount_eq_zero n hpushX hpushY (by rw [hn]; rfl))
      (popCount_eq_zero n hpopX hpopY (by rw [hn]; rfl)) hload

/-- Settles O40: each Noop by the effects of its idle plane; a reserved code runs the same cycle as its plane's Noop. -/
theorem idleAndReservedRowsComplete : Obligations.IdleAndReservedRowsComplete := by
  intro m s
  refine ⟨fun n hn hruns => ⟨cycleNext n s, ?_, ?_, xNoop_effects (by rw [hn]; rfl) rfl⟩,
    fun n hn => ⟨cycleNext n s, ?_, ?_, yNoop_effects hn rfl⟩,
    fun n hn hruns => ⟨cycleNext n s, ?_, fun i hi => ?_, zNoop_effects hn rfl⟩⟩
  · rw [exec_eq_runCycle, Instr.micro, ← hn, runCycle_of_runs hruns]
  · rw [exec_eq_runCycle, Instr.micro, runCycle_withX_reserved, ← hn, runCycle_of_runs hruns]
  · rw [exec_eq_runCycle, Instr.micro, ← hn, runCycle_of_runs (runs_of_not_ibLoad (by rw [hn]; rfl))]
  · rw [exec_eq_runCycle, Instr.micro, runCycle_withY_reserved, ← hn,
      runCycle_of_runs (runs_of_not_ibLoad (by rw [hn]; rfl))]
  · rw [exec_eq_runCycle, Instr.micro, ← hn, runCycle_of_runs hruns]
  · have hi : i ∈ ZNorm.reserved.map (zNormRow · m) := hi
    obtain ⟨op, hop, rfl⟩ := List.mem_map.mp hi
    rw [exec_eq_runCycle, zNormRow_micro, runCycle_withZ_reserved hop, ← hn, runCycle_of_runs hruns]

end Sys2Proof.Machine
end

section
/-! SUPPORT. The proofs of the statements about 16-bit arithmetic: the nibble carry cascade, and the exact sum, difference,
carry, borrow and signed overflow of the one addition behind the arithmetic functions. -/

namespace Sys2Proof.Machine

/-! ### The nibble carry cascade (40_alu.md R150) -/

theorem carryTable_toNat (x y : BitVec 4) (c : Bool) :
    (carryTable x y c).toNat = (x.toNat + y.toNat + c.toNat) / 16 := by
  have hx := x.isLt
  have hy := y.isLt
  have hc := c.toNat_le
  unfold carryTable
  by_cases h : 16 ≤ x.toNat + y.toNat + c.toNat
  · rw [decide_eq_true h, Bool.toNat_true]
    omega
  · rw [decide_eq_false h, Bool.toNat_false]
    omega

theorem nib_toNat (v : Word) (k : Nat) : (nib v k).toNat = v.toNat / 16 ^ k % 16 := by
  rw [nib, BitVec.extractLsb'_toNat, Nat.shiftRight_eq_div_pow, Nat.pow_mul]

/-- The cascade carries out of nibble `k` what the low `k + 1` nibbles of the operands add up to. -/
theorem cascade_toNat (a b : Word) (cin : Bool) (k : Nat) :
    (cascade a b cin k).toNat
      = (a.toNat % 16 ^ (k + 1) + b.toNat % 16 ^ (k + 1) + cin.toNat) / 16 ^ (k + 1) := by
  induction k with
  | zero => simp [cascade, carryTable_toNat, nib_toNat]
  | succ k ih =>
    have hpos : 0 < 16 ^ (k + 1) := Nat.pow_pos (by decide)
    rw [cascade, carryTable_toNat, nib_toNat, nib_toNat, ih, Nat.pow_succ 16 (k + 1), Nat.mod_mul, Nat.mod_mul,
      ← Nat.div_div_eq_div_mul]
    generalize 16 ^ (k + 1) = p at hpos
    congr 1
    rw [Nat.add_comm, ← Nat.add_mul_div_left _ _ hpos]
    congr 1
    ring

/-- The cascade gives the carries of the direct addition. -/
theorem cascade_eq_carry (a b : Word) (cin : Bool) (k : Nat) :
    cascade a b cin k = BitVec.carry (4 * (k + 1)) a b cin := by
  have hpow : (2 : Nat) ^ (4 * (k + 1)) = 16 ^ (k + 1) := Nat.pow_mul 2 4 (k + 1)
  have hbit : cascade a b cin k = true ↔ 0 < (cascade a b cin k).toNat := by cases cascade a b cin k <;> decide
  rw [BitVec.carry, hpow, Bool.eq_iff_iff, decide_eq_true_iff, hbit, cascade_toNat, Nat.div_pos_iff]
  exact and_iff_right (Nat.pow_pos (by decide))

/-- The last carry of the cascade is the carry out of the word. -/
theorem cascade_carryOut (a b : Word) (cin : Bool) :
    cascade a b cin 3 = decide (2 ^ 16 ≤ a.toNat + b.toNat + cin.toNat) :=
  (cascade_eq_carry a b cin 3).trans BitVec.carry_width

/-- Settles O10. -/
theorem carryCascadeIsExact : Obligations.CarryCascadeIsExact := by
  refine ⟨fun x y c => ?_, fun a b c => ⟨cascade_eq_carry a b c 0, cascade_eq_carry a b c 1, cascade_eq_carry a b c 2,
    cascade_carryOut a b c⟩⟩
  rw [carryTable_toNat, Nat.shiftRight_eq_div_pow]

/-! ### The laws of the one addition (R149, R160, R161) -/

section Arithmetic

variable (a b : Word) (c : Bool)

theorem addCore_f_toNat : (addCore a b c).f.toNat = (a.toNat + b.toNat + c.toNat) % 2 ^ 16 := by
  have hc : (carryWord c).toNat = c.toNat := by cases c <;> rfl
  rw [addCore, BitVec.toNat_add, BitVec.toNat_add, hc, Nat.mod_add_mod]

/-- The 17-bit sum: CarryOut above the result (R160). -/
theorem addCore_exact :
    (addCore a b c).carries.carry.toNat * 2 ^ 16 + (addCore a b c).f.toNat = a.toNat + b.toNat + c.toNat := by
  have hcarry : (addCore a b c).carries.carry.toNat = (a.toNat + b.toNat + c.toNat) / 2 ^ 16 := by
    have h : (cascade a b c 3).toNat = (a.toNat % 2 ^ 16 + b.toNat % 2 ^ 16 + c.toNat) / 2 ^ 16 := cascade_toNat a b c 3
    rwa [Nat.mod_eq_of_lt a.isLt, Nat.mod_eq_of_lt b.isLt] at h
  rw [hcarry, addCore_f_toNat]
  exact Nat.div_add_mod' _ _

theorem addCore_overflow_iff_sign :
    (addCore a b c).carries.overflow = true
      ↔ a.getLsbD 15 = b.getLsbD 15 ∧ (addCore a b c).f.getLsbD 15 ≠ a.getLsbD 15 := by
  simp only [addCore, Bool.and_eq_true, decide_eq_true_iff]

/-- Overflow says that the signed sum leaves the 16-bit range (R161). -/
theorem addCore_overflow_iff :
    (addCore a b c).carries.overflow = true
      ↔ a.toInt + b.toInt + c.toNat < -2 ^ 15 ∨ 2 ^ 15 ≤ a.toInt + b.toInt + c.toNat := by
  have hsign : ∀ v : Word, v.getLsbD 15 = decide (2 ^ 15 ≤ v.toNat) := BitVec.getLsbD_last
  have hf := addCore_f_toNat a b c
  have ha := a.isLt
  have hb := b.isLt
  have hc := c.toNat_le
  rw [addCore_overflow_iff_sign, hsign, hsign, hsign, ne_eq, decide_eq_decide, decide_eq_decide,
    BitVec.toInt_eq_toNat_cond, BitVec.toInt_eq_toNat_cond]
  split_ifs <;> omega

theorem addCore_comm : addCore a b c = addCore b a c := by
  have hcascade : ∀ k, cascade a b c k = cascade b a c k := fun k => by
    rw [cascade_eq_carry, cascade_eq_carry, BitVec.carry, BitVec.carry, Nat.add_comm (a.toNat % _)]
  have hover : (addCore a b c).carries.overflow = (addCore b a c).carries.overflow := by
    rw [Bool.eq_iff_iff, addCore_overflow_iff, addCore_overflow_iff, Int.add_comm a.toInt]
  have hsum : a + b = b + a := BitVec.add_comm a b
  simp only [addCore] at hover
  simp only [addCore, hcascade, hsum]
  rw [← hover, hsum]

/-- R - S is S - R with the operands exchanged, so its laws are those of S - R. -/
theorem fnSubs_eq_fnSubr : fnSubs a b c = fnSubr b a c := addCore_comm a (~~~b) c

theorem fnSubr_f : (fnSubr a b c).f = b - a - 1 + carryWord c := by
  rw [fnSubr, addCore, BitVec.not_eq_neg_add]
  change -a - 1 + b + carryWord c = _
  ring

theorem fnSubr_carry : (fnSubr a b true).carries.carry = true ↔ a.toNat ≤ b.toNat := by
  have ha := a.isLt
  have hcarry : (fnSubr a b true).carries.carry = cascade (~~~a) b true 3 := rfl
  rw [hcarry, cascade_carryOut, decide_eq_true_iff, BitVec.toNat_not, Bool.toNat_true]
  omega

theorem fnSubr_overflow :
    (fnSubr a b true).carries.overflow = true ↔ (b.toInt - a.toInt < -2 ^ 15 ∨ 2 ^ 15 ≤ b.toInt - a.toInt) := by
  have hnot : (~~~a).toInt = -1 - a.toInt := by
    have ha := a.isLt
    rw [BitVec.toInt_eq_toNat_cond, BitVec.toInt_eq_toNat_cond, BitVec.toNat_not]
    split_ifs <;> omega
  rw [fnSubr, addCore_overflow_iff, hnot, Bool.toNat_true]
  omega

end Arithmetic

/-- Settles O11: the addition, S - R as the addition of `~R`, and R - S as S - R exchanged. -/
theorem arithmeticLawsHold : Obligations.ArithmeticLawsHold := by
  intro r s
  rw [fnSubs_eq_fnSubr, fnSubs_eq_fnSubr]
  refine ⟨fun c => ⟨addCore_exact r s c, addCore_overflow_iff r s c⟩, ?_, fnSubr_carry r s, fnSubr_overflow r s, ?_,
    fnSubr_carry s r, fnSubr_overflow s r, ?_, ?_⟩
  · rw [fnSubr_f]; exact BitVec.sub_add_cancel _ _
  · rw [fnSubr_f]; exact BitVec.sub_add_cancel _ _
  · rw [fnSubr_f]; exact BitVec.add_zero _
  · rw [fnSubr_f]; exact BitVec.add_zero _

end Sys2Proof.Machine
end

section
/-! SUPPORT. The proofs of the statements about the ALU call: the rows of the source, function and carry-in fields, and the
address-load override. -/

namespace Sys2Proof.Machine

/-! ### The ALU call in and out of address-load mode (40_alu.md R159, R164, R165) -/

section AluCall

variable {m : Micro} {s : State}

theorem aluOut_of_not_addressLoad (h : addressLoadMode m s = false) : aluOut m s = (nominal m s).out := by
  rw [aluOut, h]
  rfl

theorem aluOut_of_addressLoad (h : addressLoadMode m s = true) :
    aluOut m s = (addrLoadOverride s.params.addrLoadHi m.aF (regB m s) (effCin m s) (nominal m s)).out := if_pos h

theorem aluF_of_not_addressLoad (h : addressLoadMode m s = false) : aluF m s = (nominal m s).f :=
  congrArg AluOut.f (aluOut_of_not_addressLoad h)

theorem aluF_of_addressLoad (h : addressLoadMode m s = true) :
    aluF m s = addrLoadTop m.aF (regB m s) ++ (nominal m s).f.extractLsb' 0 8 := congrArg AluOut.f (aluOut_of_addressLoad h)

variable (m s)

/-- Zero and Negative are those of the final result, in both modes (R159). -/
theorem aluOut_signFlags :
    (aluOut m s).flags.zero = decide (aluF m s = 0) ∧ (aluOut m s).flags.negative = (aluF m s).getLsbD 15 := by
  unfold aluF aluOut
  split_ifs
  · exact ⟨rfl, rfl⟩
  · exact ⟨rfl, rfl⟩

/-- NibbleCarry and PageCarry are the nominal ones, in both modes (R165). -/
theorem aluOut_lowCarries :
    (aluOut m s).flags.nibbleCarry = (nominal m s).carries.nibble
      ∧ (aluOut m s).flags.pageCarry = (nominal m s).carries.page := by
  unfold aluOut
  split_ifs
  · exact ⟨rfl, rfl⟩
  · exact ⟨rfl, rfl⟩

end AluCall

/-! ### Address-load mode -/

/-- The forced function is not-exclusive-or exactly for the upper half of the codes (R164). -/
theorem forcesXnor_eq (f : AluFn) : forcesXnor f = !decide (f.code.toNat < 4) := by cases f <;> rfl

theorem addrLoadTop_eq (f : AluFn) (v : Word) :
    addrLoadTop f v = if f.code.toNat < 4 then v.extractLsb' 8 8 else ~~~(v.extractLsb' 8 8) := by cases f <;> rfl

/-- ADDRLOAD_HI reads the function code only through the forced function (R165). -/
theorem addrLoadHi_congr {f g : AluFn} (h : forcesXnor f = forcesXnor g) (n : NetChoice) (top : Byte) (cin : Bool) :
    addrLoadHi n f top cin = addrLoadHi n g top cin := by
  simp only [addrLoadHi, suggestedHi, forcedFn, h]

/-- Settles O15. -/
theorem addressLoadForcesTheTopByte : Obligations.AddressLoadForcesTheTopByte := by
  refine fun m s => ⟨fun h => ?_, aluF_of_not_addressLoad⟩
  rw [aluF_of_addressLoad h]
  exact ⟨((extract_append_high _ _ 8 8 (by decide)).trans (extract_self _)).trans (addrLoadTop_eq m.aF (regB m s)),
    (extract_append_low _ _ 0 8 (by decide)).trans (extract_self _)⟩

/-- Settles O16: both high flags are those of ADDRLOAD_HI, whose three arguments are the same in the two cycles. -/
theorem addressLoadCarriesIgnoreTheOperands : Obligations.AddressLoadCarriesIgnoreTheOperands := by
  intro m n s t hm hn hparam hfn htop hcin
  have hforced : forcesXnor m.aF = forcesXnor n.aF := by
    rw [forcesXnor_eq, forcesXnor_eq, decide_eq_decide.mpr hfn]
  have hhigh : addrLoadHi s.params.addrLoadHi m.aF ((regB m s).extractLsb' 8 8) (effCin m s)
      = addrLoadHi t.params.addrLoadHi n.aF ((regB n t).extractLsb' 8 8) (effCin n t) := by
    rw [regB, htop, hparam, hcin, addrLoadHi_congr hforced]
    rfl
  have hmout := aluOut_of_addressLoad hm
  have hnout := aluOut_of_addressLoad hn
  obtain ⟨hnibble, hpage⟩ := aluOut_lowCarries m s
  refine ⟨?_, ?_, hnibble, hpage, aluOut_signFlags m s⟩
  · rw [hmout, hnout]
    exact congrArg HighCarries.carry hhigh
  · rw [hmout, hnout]
    exact congrArg HighCarries.overflow hhigh

/-! ### The source rows (R140 to R147) -/

/-- With D0, OR and, at carry-in 0, ADD give the X bus back. -/
theorem nominal_withSrc_dz {m : Micro} {s : State} (hfn : m.aF = .add ∨ m.aF = .or)
    (hcin : effCin (m.withSrc .dz) s = false) : (nominal (m.withSrc .dz) s).f = xBus (m.withSrc .dz) s := by
  have hnominal : nominal (m.withSrc .dz) s = aluFn s.params.logicNet m.aF (xBus (m.withSrc .dz) s) 0 false := by
    rw [nominal, hcin]
    rfl
  rw [hnominal]
  rcases hfn with h | h
  · rw [h]
    exact (BitVec.add_zero _).trans (BitVec.add_zero _)
  · rw [h]
    exact BitVec.or_zero

/-- Settles O12: each row codes its pair and leaves the function field alone. -/
theorem sourceRowsSelectTheirOperands : Obligations.SourceRowsSelectTheirOperands := by
  refine fun m s => ⟨fun p hp hruns => ?_, fun hmode hfn hcin => ?_⟩
  · have hrow : srcPair p.1.micro s = p.2 p.1.micro ∧ p.1.micro.aF = m.aF := by
      simp only [List.mem_cons, List.not_mem_nil, or_false] at hp
      rcases hp with rfl | rfl | rfl | rfl | rfl | rfl | rfl | rfl <;> exact ⟨rfl, rfl⟩
    obtain ⟨hpair, hfn⟩ := hrow
    refine ⟨hpair, _, exec_of_runs hruns, fun hmode => ?_⟩
    rw [cycleNext_flags, aluOut_of_not_addressLoad hmode, nominal, hpair, hfn]
  · rw [aluF_of_not_addressLoad hmode, nominal_withSrc_dz hfn hcin]

/-! ### The function rows (R149 to R162) -/

/-- Settles O13: a row's nominal function is the addition of its addends. -/
theorem arithmeticRowsCompute : Obligations.ArithmeticRowsCompute := by
  intro m s p hp hruns
  have hrow : ∀ a b : Word, (a, b) = p.2 (srcPair p.1.micro s).1 (srcPair p.1.micro s).2 →
      nominal p.1.micro s = addCore a b (effCin p.1.micro s) := by
    simp only [List.mem_cons, List.not_mem_nil, or_false] at hp
    rcases hp with rfl | rfl | rfl <;> (rintro a b ⟨⟩; rfl)
  refine ⟨_, exec_of_runs hruns, fun a b hab c hc => ?_⟩
  have hadd : nominal p.1.micro s = addCore a b c := hc ▸ hrow a b hab
  obtain ⟨hnibble, hpage⟩ := aluOut_lowCarries p.1.micro s
  obtain ⟨hzero, hnegative⟩ := aluOut_signFlags p.1.micro s
  rw [hadd] at hnibble hpage
  rw [cycleNext_flags]
  refine ⟨hnibble.trans (cascade_eq_carry a b c 0), hpage.trans (cascade_eq_carry a b c 1), fun hmode => ?_⟩
  refine ⟨?_, hzero, hnegative, ?_, ?_⟩
  · rw [aluF_of_not_addressLoad hmode, hadd, addCore_f_toNat]
  · rw [aluOut_of_not_addressLoad hmode, hadd]
    exact cascade_carryOut a b c
  · rw [aluF_of_not_addressLoad hmode, aluOut_of_not_addressLoad hmode, hadd]
    exact addCore_overflow_iff_sign a b c

/-- Settles O14: a row's nominal function is its bitwise operation, with the carry-type flags of LOGIC_NET. -/
theorem logicalRowsCompute : Obligations.LogicalRowsCompute := by
  intro m s p hp hruns
  have hrow : nominal p.1.micro s
      = { f := p.2.2 (srcPair p.1.micro s).1 (srcPair p.1.micro s).2
          carries := logicNet s.params.logicNet p.2.1 (srcPair p.1.micro s).1 (srcPair p.1.micro s).2
            (effCin p.1.micro s) } := by
    simp only [List.mem_cons, List.not_mem_nil, or_false] at hp
    rcases hp with rfl | rfl | rfl | rfl | rfl <;> rfl
  refine ⟨_, exec_of_runs hruns, fun hmode => ?_⟩
  obtain ⟨hzero, hnegative⟩ := aluOut_signFlags p.1.micro s
  rw [cycleNext_flags]
  refine ⟨?_, hzero, hnegative, ?_⟩
  · rw [aluF_of_not_addressLoad hmode, hrow]
  · rw [aluOut_of_not_addressLoad hmode, hrow]
    rfl

/-! ### The carry-in rows (R180 to R184) -/

/-- The override is effective where the X plane codes it, or the Z plane codes it beside a raw carry-in of 1 (R181). -/
theorem cinToggle_iff (m : Micro) :
    m.cinToggle = true ↔ m.x = .cinPc16 ∨ (m.planes.z? = some (.norm .cinPc16) ∧ m.cin = true) := by
  simp [Micro.cinToggle, Micro.cinToggleX, Micro.cinToggleZ, Micro.zNormIs]

theorem carryIn_of_toggle {m : Micro} (h : m.cinToggle = true) (s : State) :
    effCin m s = s.pc16 ∧ (cycleNext m s).pc16 = !s.pc16 := by
  rw [effCin, cycleNext_pc16, if_pos h, if_pos h]
  exact ⟨rfl, rfl⟩

/-- Settles O20: `cinToggle` is the override of every microinstruction, so the four rows need no case of their own. -/
theorem carryInRowsComplete : Obligations.CarryInRowsComplete := by
  intro m s i _ hruns
  refine ⟨_, exec_of_runs hruns, fun h => carryIn_of_toggle ((cinToggle_iff _).mpr h) s,
    fun h => carryIn_of_no_toggle _ s ?_⟩
  rwa [← cinToggle_iff, Bool.not_eq_true] at h

end Sys2Proof.Machine
end

section
/-! SUPPORT. The proofs of the statements about the write-back rows: the plain codes 0 to 3, and the shift codes 4 to 7 with
their ends. -/

namespace Sys2Proof.Machine

/-! ### The write-back of a cycle (40_alu.md R170 to R178) -/

section WriteBack

variable (m : Micro) (s : State)

/-- Y is the result, but the start-of-cycle `R[rA]` for code 2 (R170). -/
theorem yBus_eq : yBus m s = if m.dest = .ba then rd s.r m.rA else aluF m s := by
  unfold yBus
  split
  · next h => exact (if_pos h).symm
  · next h => exact (if_neg h).symm

variable {m}

theorem rd_nextR_rB {v : Word} (h : writeR m s = some v) : rd (nextR m s) m.rB = v := by
  rw [nextR, h, rd_wr_same]

theorem rd_nextR_of_plain (h : m.dest = .ba ∨ m.dest = .b) : rd (nextR m s) m.rB = aluF m s := by
  apply rd_nextR_rB
  rcases h with h | h <;> rw [writeR, h]

theorem rd_nextR_of_right (h : m.dest = .doubleRight ∨ m.dest = .singleRight) :
    rd (nextR m s) m.rB = shiftRight1 (endsOf m s).ramIn (aluF m s) := by
  apply rd_nextR_rB
  rcases h with h | h <;> rw [writeR, h]

theorem rd_nextR_of_left (h : m.dest = .doubleLeft ∨ m.dest = .singleLeft) :
    rd (nextR m s) m.rB = shiftLeft1 (aluF m s) (endsOf m s).ramIn := by
  apply rd_nextR_rB
  rcases h with h | h <;> rw [writeR, h]

theorem nextQ_of_q (h : m.dest = .q) : nextQ m s = aluF m s := by
  rw [nextQ, h]

theorem nextQ_of_doubleRight (h : m.dest = .doubleRight) : nextQ m s = shiftRight1 (endsOf m s).qIn s.q := by
  rw [nextQ, h]

theorem nextQ_of_doubleLeft (h : m.dest = .doubleLeft) : nextQ m s = shiftLeft1 s.q (endsOf m s).qIn := by
  rw [nextQ, h]

theorem nextQ_of_single (h : m.dest = .singleRight ∨ m.dest = .singleLeft) : nextQ m s = s.q := by
  rcases h with h | h <;> rw [nextQ, h]

end WriteBack

/-! ### The plain rows (R171 to R174) -/

/-- The write-back code of `aD` without shift and cycle (R123). -/
def plainCode : WbSel → Dest
  | .q => .q
  | .none => .none
  | .ba => .ba
  | .b => .b

/-- Coding a plain row drops a coded shift or cycle, so `aD` alone is the write-back code. -/
theorem dest_withPlainDest (m : Micro) (d : WbSel) : (m.withPlainDest d).dest = plainCode d := by
  have hx := Laws.EncodeSelectsRow.withPlainDest_x m d
  have hplain : ¬ ((m.withPlainDest d).x = .shift ∨ (m.withPlainDest d).x = .cycle) := by
    rintro (h | h)
    · rw [h] at hx
      cases hx
    · rw [h] at hx
      cases hx
  rw [dest_eq, if_neg hplain]
  cases d <;> rfl

/-- Settles O17: codes 0 and 1 write no general register, codes 1 to 3 keep Q, and only code 2 keeps F off the Y bus. -/
theorem plainWriteBackRowsComplete : Obligations.PlainWriteBackRowsComplete := by
  intro m s
  have hdest := dest_withPlainDest m
  have hr (d : WbSel) (h : plainCode d = .q ∨ plainCode d = .none) : nextR (m.withPlainDest d) s = s.r :=
    nextR_of_no_writeback _ s (by rwa [hdest])
  have hrB (d : WbSel) (h : plainCode d = .ba ∨ plainCode d = .b) :
      rd (nextR (m.withPlainDest d) s) m.rB = aluF (m.withPlainDest d) s :=
    rd_nextR_of_plain (m := m.withPlainDest d) s (by rwa [hdest])
  have hother (d : WbSel) (j : BitVec 4) (hj : j ≠ m.rB) : rd (nextR (m.withPlainDest d) s) j = rd s.r j :=
    nextR_other (m.withPlainDest d) s hj
  have hq (d : WbSel) (h : d ≠ .q) : nextQ (m.withPlainDest d) s = s.q := by
    rw [nextQ, hdest]
    cases d with
    | q => exact absurd rfl h
    | none => rfl
    | ba => rfl
    | b => rfl
  have hy (d : WbSel) : yBus (m.withPlainDest d) s
      = if plainCode d = .ba then rd s.r m.rA else aluF (m.withPlainDest d) s := by
    rw [yBus_eq, hdest]
    rfl
  refine ⟨fun hruns => ⟨_, exec_of_runs (i := .dest0Q m) hruns, ?_, ?_, hy .q⟩,
    fun hruns => ⟨_, exec_of_runs (i := .dest1NONE m) hruns, ?_, ?_, hy .none⟩,
    fun hruns => ⟨_, exec_of_runs (i := .dest2BA m) hruns, ?_, ?_, ?_, hy .ba⟩,
    fun hruns => ⟨_, exec_of_runs (i := .dest3B m) hruns, ?_, ?_, ?_, hy .b⟩, fun n => yBus_eq n s⟩
  · rw [cycleNext_q]; exact nextQ_of_q s (hdest .q)
  · rw [cycleNext_r]; exact hr .q (.inl rfl)
  · rw [cycleNext_q]; exact hq .none (by decide)
  · rw [cycleNext_r]; exact hr .none (.inr rfl)
  · rw [cycleNext_q]; exact hq .ba (by decide)
  · rw [cycleNext_r]; exact hrB .ba (.inl rfl)
  · rw [cycleNext_r]; exact hother .ba
  · rw [cycleNext_q]; exact hq .b (by decide)
  · rw [cycleNext_r]; exact hrB .b (.inr rfl)
  · rw [cycleNext_r]; exact hother .b

/-! ### The shift rows (R175 to R179) -/

/-- The write-back code of `aD` with shift or cycle (R123). -/
def shiftCode : WbSel → Dest
  | .q => .doubleRight
  | .none => .singleRight
  | .ba => .doubleLeft
  | .b => .singleLeft

theorem dest_withShiftDest (m : Micro) (d : WbSel) (isCycle : Bool) :
    (m.withShiftDest d isCycle).dest = shiftCode d := by
  cases isCycle <;> cases d <;> rfl

theorem shiftCode_ne_ba (d : WbSel) : shiftCode d ≠ .ba := by cases d <;> decide

/-- What the four shift rows share: the entering bits are SHIFT_ENDS's, Y is F, and no other general register changes. -/
theorem shiftRow_effects {m : Micro} {y : Bool} {s : State} {e : ShiftEnds} (d : WbSel)
    (he : e = shiftEnds s.params.shiftEnds (shiftCode d) y (aluF (m.withShiftDest d y) s) s.q
      (effCin (m.withShiftDest d y) s) (aluOut (m.withShiftDest d y) s).flags) :
    endsOf (m.withShiftDest d y) s = e ∧ (∀ j, j ≠ m.rB → rd (nextR (m.withShiftDest d y) s) j = rd s.r j)
      ∧ yBus (m.withShiftDest d y) s = aluF (m.withShiftDest d y) s := by
  have hdest := dest_withShiftDest m d y
  have hcycle : (m.withShiftDest d y).isCycle = y := by cases y <;> rfl
  refine ⟨?_, fun j => nextR_other (m.withShiftDest d y) s, ?_⟩
  · rw [endsOf, hdest, hcycle, he]
  · rw [yBus_eq, hdest, if_neg (shiftCode_ne_ba d)]

/-- Settles O18: the entering bits of `shiftRow_effects` go to the end that the row's write-back code opens. -/
theorem shiftRowsComplete : Obligations.ShiftRowsComplete := by
  intro m s y
  have hdest (d : WbSel) := dest_withShiftDest m d y
  refine ⟨fun hruns => ⟨_, exec_of_runs (i := .dest4DoubleRight y m) hruns, ?_⟩,
    fun hruns => ⟨_, exec_of_runs (i := .dest5SingleRight y m) hruns, ?_⟩,
    fun hruns => ⟨_, exec_of_runs (i := .dest6DoubleLeft y m) hruns, ?_⟩,
    fun hruns => ⟨_, exec_of_runs (i := .dest7SingleLeft y m) hruns, ?_⟩⟩
  all_goals
    rintro _ rfl e he
    rw [cycleNext_flags] at he
    rw [cycleNext_r, cycleNext_q]
  · obtain ⟨hends, hother, hy⟩ := shiftRow_effects .q he
    have hr := rd_nextR_of_right s (.inl (hdest .q))
    have hq := nextQ_of_doubleRight s (hdest .q)
    rw [hends] at hr hq
    exact ⟨hr, hq, hother, hy, fun htable => by rw [he, htable]; exact ⟨rfl, rfl⟩⟩
  · obtain ⟨hends, hother, hy⟩ := shiftRow_effects .none he
    have hr := rd_nextR_of_right s (.inr (hdest .none))
    have hq := nextQ_of_single s (.inl (hdest .none))
    rw [hends] at hr
    exact ⟨hr, hq, hother, hy, fun htable => by rw [he, htable]; rfl⟩
  · obtain ⟨hends, hother, hy⟩ := shiftRow_effects .ba he
    have hr := rd_nextR_of_left s (.inl (hdest .ba))
    have hq := nextQ_of_doubleLeft s (hdest .ba)
    rw [hends] at hr hq
    exact ⟨hr, hq, hother, hy, fun htable => by rw [he, htable]; exact ⟨rfl, rfl⟩⟩
  · obtain ⟨hends, hother, hy⟩ := shiftRow_effects .b he
    have hr := rd_nextR_of_left s (.inr (hdest .b))
    have hq := nextQ_of_single s (.inr (hdest .b))
    rw [hends] at hr
    exact ⟨hr, hq, hother, hy, fun htable => by rw [he, htable]; rfl⟩

end Sys2Proof.Machine
end

section
/-! SUPPORT. The proofs of the statements about the X bus and its sources: the priority of R190, the rows of the Z plane's
inputs and of the rotate bypass, U-address mode, and the RH load. -/

namespace Sys2Proof.Machine

/-! ### The sources of the X bus, in their order (41_bus_input.md R190) -/

section Sources

variable {m : Micro} {s : State}

/-- A literal comes first (R191, R192). -/
theorem xBus_of_const {c : BitVec 8} (h : m.const? = some c) : xBus m s = 0#8 ++ c := by
  rw [xBus, constSource, h]
  rfl

/-- A reading input comes after the literals (R193). -/
theorem xBus_of_input {v : Word} (hconst : m.const? = none) (hinput : inputSource m s = some v) : xBus m s = v := by
  rw [xBus, constSource, hconst, hinput]
  rfl

/-- The rotate bypass comes after the inputs (R213). -/
theorem xBus_of_rotate {n : Nat} (hconst : m.const? = none) (hinput : inputSource m s = none)
    (hrot : m.rotAmount = some n) : xBus m s = (rd s.r m.rA).rotateLeft n := by
  rw [xBus, constSource, hconst, hinput, rotSource, hrot]
  rfl

/-- Only a strobe drives nothing (R193). -/
theorem drives_eq_false_of_inputValue {op : ZInput} (h : inputValue op m s = none) : op.drives = false := by
  cases op with
  | kStrobe => rfl
  | eStrobe => rfl
  | _ => cases h

/-- Below the plane sources: the SU read, the memory read, the idle value (R194, R215). -/
theorem xBus_of_no_plane_driver (hconst : m.const? = none) (hinput : inputSource m s = none) (hrot : m.rotAmount = none) :
    xBus m s = if m.suRead = true then rd s.su (suAddr m s)
      else if m.mem = true ∧ s.cycle = .c3 then (rd s.inputs.data s.curTask.id).value
      else s.params.xbusIdle := by
  have hdrives : ∀ op, m.input? = some op → op.drives = false := fun op hop =>
    drives_eq_false_of_inputValue (Option.bind_eq_none_iff.mp hinput op hop)
  rw [xBus_of_no_plane_source hconst hrot hdrives]
  split_ifs with hsu hmem
  · rw [suSource_of_suRead hsu]
    rfl
  · rw [suSource_eq_none (Bool.eq_false_iff.mpr hsu), memSource_of_c3 hmem.1 hmem.2]
    rfl
  · have hnone : memSource m s = none := by simpa [memSource] using hmem
    rw [suSource_eq_none (Bool.eq_false_iff.mpr hsu), hnone]
    rfl

end Sources

/-- Settles O24: one lemma per source, each under the absence of the sources before it. -/
theorem xBusTakesTheFirstCodedSource : Obligations.XBusTakesTheFirstCodedSource := by
  intro m s
  split
  · next hconst => exact xBus_of_const hconst
  · next hconst hinput => exact xBus_of_input hconst hinput
  · next hconst hinput hrot => exact xBus_of_rotate hconst hinput hrot
  · next hconst hinput hrot => exact xBus_of_no_plane_driver hconst hinput hrot

/-! ### The input rows (R193, R197 to R212) -/

section Inputs

variable {m : Micro} {s : State} {op : ZInput}

/-- An input code excludes the literals, so a reading input drives the bus. -/
theorem xBus_withZ_input {v : Word} (h : inputValue op (m.withZ (.input op)) s = some v) :
    xBus (m.withZ (.input op)) s = v := xBus_of_input (m := m.withZ (.input op)) rfl h

/-- A strobe leaves the bus to the SU read and the memory read, as an idle Z plane does (R201, R204). -/
theorem xBus_withZ_strobe (h : op.drives = false) : xBus (m.withZ (.input op)) s = xBus (m.withZ (.norm .noop)) s := by
  have hop : ∀ o, (m.withZ (.input op)).input? = some o → o.drives = false := fun o ho => Option.some.inj ho ▸ h
  have hidle : ∀ o, (m.withZ (.norm .noop)).input? = some o → o.drives = false := fun _ ho => nomatch ho
  rw [xBus_of_no_plane_source (m := m.withZ (.input op)) rfl rfl hop,
    xBus_of_no_plane_source (m := m.withZ (.norm .noop)) rfl rfl hidle]
  rfl

/-- The device rows code an input that drives the environment's answer for their port. -/
theorem deviceReadRow {p : Instr × BitVec 4}
    (h : p ∈ ([(.zEIData m, 0), (.zEStatus m, 1), (.zKIData m, 2), (.zKStatus m, 3), (.zMStatus m, 5), (.zKTest m, 6),
      (.zIOPIData m, 8), (.zIOPStatus m, 9)] : List (Instr × BitVec 4))) :
    ∃ op, p.1.micro = m.withZ (.input op) ∧ ∀ (n : Micro) (s : State), inputValue op n s = some (deviceRead s p.2) := by
  simp only [List.mem_cons, List.not_mem_nil, or_false] at h
  rcases h with rfl | rfl | rfl | rfl | rfl | rfl | rfl | rfl
  · exact ⟨.eiData, rfl, fun _ _ => rfl⟩
  · exact ⟨.eStatus, rfl, fun _ _ => rfl⟩
  · exact ⟨.kiData, rfl, fun _ _ => rfl⟩
  · exact ⟨.kStatus, rfl, fun _ _ => rfl⟩
  · exact ⟨.mStatus, rfl, fun _ _ => rfl⟩
  · exact ⟨.kTest, rfl, fun _ _ => rfl⟩
  · exact ⟨.iopIData, rfl, fun _ _ => rfl⟩
  · exact ⟨.iopStatus, rfl, fun _ _ => rfl⟩

/-- The strobe rows code an input that drives nothing and emits their port's strobe. -/
theorem strobeRow {p : Instr × BitVec 4} (h : p ∈ ([(.zKStrobe m, 4), (.zEStrobe m, 7)] : List (Instr × BitVec 4))) :
    ∃ op, p.1.micro = m.withZ (.input op) ∧ op.drives = false
      ∧ strobeEvents (m.withZ (.input op)) = [.deviceStrobe p.2] := by
  simp only [List.mem_cons, List.not_mem_nil, or_false] at h
  rcases h with rfl | rfl
  · exact ⟨.kStrobe, rfl, rfl, rfl⟩
  · exact ⟨.eStrobe, rfl, rfl, rfl⟩

end Inputs

/-- Settles O26: each row's input drives the answer for its port. -/
theorem deviceReadRowsComplete : Obligations.DeviceReadRowsComplete := by
  intro m s p hp hruns
  obtain ⟨op, hmicro, hvalue⟩ := deviceReadRow hp
  refine ⟨?_, _, exec_of_runs hruns⟩
  rw [hmicro]
  exact xBus_withZ_input (hvalue _ s)

/-- Settles O27: the strobe events of a cycle are those of its input code. -/
theorem strobeRowsComplete : Obligations.StrobeRowsComplete := by
  intro m s p hp hruns
  obtain ⟨op, hmicro, hdrives, hstrobe⟩ := strobeRow hp
  rw [exec_of_runs hruns, hmicro]
  exact ⟨xBus_withZ_strobe hdrives, _, rfl, emitted_of_filter _ s (by rw [cycleEvents_isStrobe, hstrobe])⟩

/-! ### The status word (R207) -/

/-- The smallest signaled cause is the one read (10_state.md R37, 60_exceptions.md R406). -/
theorem errCode_of_smallest {e : ErrSet} {c : Cause} (hc : e.has c = true)
    (hmin : ∀ d, e.has d = true → (causeCode c).toNat ≤ (causeCode d).toNat) : e.errCode = some (causeCode c) := by
  have hsmaller (d : Cause) (hd : (causeCode d).toNat < (causeCode c).toNat) : e.has d = false :=
    Bool.eq_false_iff.mpr fun h => absurd (hmin d h) (Nat.not_le.mpr hd)
  cases c with
  | controlStoreParity => exact if_pos hc
  | memoryFault =>
    have hparity : e.parity = false := hsmaller .controlStoreParity (by decide)
    have hmemory : e.memory = true := hc
    rw [ErrSet.errCode, hparity, hmemory]
    rfl
  | stackOverUnderflow =>
    have hparity : e.parity = false := hsmaller .controlStoreParity (by decide)
    have hmemory : e.memory = false := hsmaller .memoryFault (by decide)
    have hstack : e.stack = true := hc
    rw [ErrSet.errCode, hparity, hmemory, hstack]
    rfl
  | ibEmpty =>
    have hparity : e.parity = false := hsmaller .controlStoreParity (by decide)
    have hmemory : e.memory = false := hsmaller .memoryFault (by decide)
    have hstack : e.stack = false := hsmaller .stackOverUnderflow (by decide)
    have hib : e.ib = true := hc
    rw [ErrSet.errCode, hparity, hmemory, hstack, hib]
    rfl

/-- The four fields of the status word. -/
theorem errIbStk_fields (s : State) :
    (errIbStk s).extractLsb' 8 8 = 0 ∧ (errIbStk s).extractLsb' 6 2 = s.errSet.errCode.getD s.params.errNoneRead
      ∧ (errIbStk s).extractLsb' 4 2 = ~~~s.ibPtr.count ∧ (errIbStk s).extractLsb' 0 4 = ~~~s.stackP := by
  have hupper (start len : Nat) (h : 4 ≤ start) := extract_append_high
    (0#8 ++ s.errSet.errCode.getD s.params.errNoneRead ++ ~~~s.ibPtr.count) (~~~s.stackP) start len h
  refine ⟨?_, ?_, ?_, ?_⟩
  · exact (hupper 8 8 (by decide)).trans <| (extract_append_high _ _ 4 8 (by decide)).trans <|
      (extract_append_high _ _ 2 8 (by decide)).trans (extract_self _)
  · exact (hupper 6 2 (by decide)).trans <| (extract_append_high _ _ 2 2 (by decide)).trans <|
      (extract_append_low _ _ 0 2 (by decide)).trans (extract_self _)
  · exact (hupper 4 2 (by decide)).trans <| (extract_append_low _ _ 0 2 (by decide)).trans (extract_self _)
  · exact (extract_append_low _ _ 0 4 (by decide)).trans (extract_self _)

/-- A cause stays signaled unless `ClrIntErr` is coded (43_y_control.md R252, 60_exceptions.md R403). -/
theorem cycleNext_keeps_cause {m : Micro} {s : State} (hclr : m.clrIntErr = false) {c : Cause}
    (hc : s.errSet.has c = true) : (cycleNext m s).errSet.has c = true := by
  rw [cycleNext_errSet_has, hc, hclr]
  rfl

/-- Coding the Z plane keeps a coded `ClrIntErr`, and codes none into a byte-mode word. -/
theorem withZ_clrIntErr (m : Micro) (z : ZOp) : (m.withZ z).clrIntErr = m.clrIntErr := by
  rw [Micro.clrIntErr, Micro.yNormIs, Micro.withZ, Micro.clrIntErr, Micro.yNormIs]
  cases m.planes with
  | byte imm zMode => rfl
  | yz y z => rfl

/-- Settles O28: the status word by its fields, its cause field by the set of signaled causes; `<-RH` by its input. -/
theorem statusReadRowsComplete : Obligations.StatusReadRowsComplete := by
  refine fun m s => ⟨fun hruns x hx => ?_, fun hruns => ⟨xBus_withZ_input rfl, _, exec_of_runs (i := .zRH m) hruns⟩⟩
  obtain rfl : x = errIbStk s := hx.trans (xBus_withZ_input rfl)
  obtain ⟨hzero, hcause, hcount, hstack⟩ := errIbStk_fields s
  refine ⟨hzero, fun hnone => ?_, fun c hc hmin => ?_, hcount, hstack, _, exec_of_runs (i := .zErrIBStk m) hruns,
    fun hclr c hc => ?_⟩
  · rw [hcause, hnone]
    rfl
  · rw [hcause, errCode_of_smallest hc hmin]
    rfl
  · rw [← withZ_clrIntErr m (.input .errIBStk)] at hclr
    exact cycleNext_keeps_cause hclr hc

/-! ### The peek rows (R209 to R212) -/

section Peeks

variable (m : Micro) (s : State)

/-- The peek rows code an input that peeks; it drives the byte or nibble of the row and advances where the row does. -/
theorem peekRow {p : Instr × Word × Bool}
    (h : p ∈ ([(.zIbNA m, 0#8 ++ s.ibFront, false), (.zIb m, 0#8 ++ s.ibFront, true),
      (.zIbLow m, 0#12 ++ s.ibFront.extractLsb' 0 4, true), (.zIbHigh m, 0#12 ++ s.ibFront.extractLsb' 4 4, false)] :
      List (Instr × Word × Bool))) :
    ∃ op : ZInput, p.1.micro = m.withZ (.input op) ∧ (∀ n : Micro, inputValue op n s = some p.2.1)
      ∧ op.peeks = true ∧ op.advances = p.2.2 := by
  simp only [List.mem_cons, List.not_mem_nil, or_false] at h
  rcases h with rfl | rfl | rfl | rfl
  · exact ⟨.ibNA, rfl, fun _ => rfl, rfl, rfl⟩
  · exact ⟨.ib, rfl, fun _ => rfl, rfl, rfl⟩
  · exact ⟨.ibLow, rfl, fun _ => rfl, rfl, rfl⟩
  · exact ⟨.ibHigh, rfl, fun _ => rfl, rfl, rfl⟩

variable {m s}

/-- Without a load and a forced dispatch, an advancing peek and a dispatch of a Full buffer consume (46_ib.md R315). -/
theorem nextIb_of_not_forced (hload : m.ibLoad = false) (hforce : m.alwaysDisp = false) :
    nextIb m s = if m.peekAdvances = true ∨ (m.planes.y? = some (.norm .ibDisp) ∧ s.ibPtr = .full) then s.ib.consume
      else s.ib := by
  have hreq : consumeReq m s = true
      ↔ m.peekAdvances = true ∨ (m.planes.y? = some (.norm .ibDisp) ∧ s.ibPtr = .full) := by
    simp [consumeReq, dispatchPerformed, Micro.ibDispRequest, Micro.yNormIs, hforce]
  rw [nextIb, if_neg (Bool.eq_false_iff.mp hload)]
  exact if_congr hreq rfl rfl

/-- A peek signals IBEmpty exactly on an Empty buffer (R320). -/
theorem ibRaise_of_peeks (h : m.peeks = true) : ibRaise m s = decide (s.ibPtr = .empty) := by simp [ibRaise, h]

/-- The latch of an Empty peek before the click boundary (10_state.md R44). -/
theorem cycleNext_ibEmptyLatch_of_ne_c3 (h : s.cycle ≠ .c3) :
    (cycleNext m s).ibEmptyLatch = (s.ibEmptyLatch || (peekEmpty m s && decide (s.cycle = .c1))) := by
  rw [cycleNext_of_ne_c3 m s h]
  simp

end Peeks

/-- Settles O29: a peek row is an input that peeks, beside which no forced dispatch can be coded. -/
theorem peekRowsComplete : Obligations.PeekRowsComplete := by
  intro m s p hp hruns
  obtain ⟨op, hmicro, hvalue, hpeeks, hadvances⟩ := peekRow m s hp
  have hexec := exec_of_runs hruns
  rw [hmicro] at hexec ⊢
  generalize hn : m.withZ (.input op) = n at hexec ⊢
  have hpeek : n.peeks = true := by rw [← hn]; exact hpeeks
  have hadvance : n.peekAdvances = p.2.2 := by rw [← hn]; exact hadvances
  refine ⟨?_, _, hexec, fun hload => ?_, fun hempty => ⟨?_, fun hc => ?_⟩, fun hfull => ⟨?_, fun hc => ?_⟩⟩
  · rw [← hn]
    exact xBus_withZ_input (hvalue _)
  · rw [cycleNext_ib, nextIb_of_not_forced hload (by rw [← hn]; rfl), hadvance]
  · rw [cycleNext_ibCause, ibRaise_of_peeks hpeek, decide_eq_true hempty, Bool.or_true]
  · rw [cycleNext_ibEmptyLatch_of_ne_c3 (by rw [hc]; decide), peekEmpty, hpeek, decide_eq_true hempty, decide_eq_true hc]
    exact Bool.or_true _
  · rw [cycleNext_ibCause, ibRaise_of_peeks hpeek, decide_eq_false hfull, Bool.or_false]
  · rw [cycleNext_ibEmptyLatch_of_ne_c3 hc, peekEmpty, decide_eq_false hfull, Bool.and_false, Bool.false_and, Bool.or_false]

/-! ### The rotate rows (R213, R220 to R223) -/

/-- A left rotate brings the top `a` bits below the other `b`. -/
theorem rotateLeft_eq_append {a b : Nat} (hb : 0 < b) (v : BitVec (a + b)) :
    v.rotateLeft a = (v.extractLsb' 0 b ++ v.extractLsb' b a).cast (Nat.add_comm b a) := by
  have hmod : a % (a + b) = a := Nat.mod_eq_of_lt (Nat.lt_add_of_pos_right hb)
  ext i hi
  simp only [BitVec.getElem_rotateLeft, BitVec.getElem_cast, BitVec.getElem_append, BitVec.getElem_extractLsb', hmod,
    Nat.add_sub_cancel_left, Nat.zero_add]
  split_ifs
  · exact (BitVec.getLsbD_eq_getElem _).symm
  · exact (BitVec.getLsbD_eq_getElem _).symm

theorem rotateLeft_zero (v : Word) : v.rotateLeft 0 = v := by
  ext i hi
  simp [BitVec.getElem_rotateLeft]

section Rotates

variable {m : Micro} {s : State} {op : ZNorm} {n : Nat}

theorem xBus_withZ_rotate (h : (m.withZ (.norm op)).rotAmount = some n) :
    xBus (m.withZ (.norm op)) s = (rd s.r m.rA).rotateLeft n := xBus_of_rotate (m := m.withZ (.norm op)) rfl rfl h

/-- D0, ADD, carry-in 0 and write-back code 3 carry the X bus into `R[rB]`. -/
theorem rd_nextR_of_xBus (hsrc : m.aS = .dz) (hfn : m.aF = .add) (hdest : m.dest = .b) (hcin : effCin m s = false)
    (hmode : addressLoadMode m s = false) : rd (nextR m s) m.rB = xBus m s := by
  have hself : m.withSrc .dz = m := withSrc_of_eq hsrc
  have hnominal : (nominal (m.withSrc .dz) s).f = xBus (m.withSrc .dz) s :=
    nominal_withSrc_dz (.inl hfn) (by rwa [hself])
  rw [hself] at hnominal
  rw [rd_nextR_of_plain s (.inr hdest), aluF_of_not_addressLoad hmode, hnominal]

/-- The rotate rows code a rotate bypass; its amount permutes the nibbles as the row does. -/
theorem rotateRow {p : Instr × (Word → Word)}
    (h : p ∈ ([(.zLRot0 m, fun v => v), (.zLRot12 m, fun v => v.extractLsb' 0 4 ++ v.extractLsb' 4 12),
      (.zLRot8 m, fun v => v.extractLsb' 0 8 ++ v.extractLsb' 8 8),
      (.zLRot4 m, fun v => v.extractLsb' 0 12 ++ v.extractLsb' 12 4)] : List (Instr × (Word → Word)))) :
    ∃ op n, p.1.micro = m.withZ (.norm op) ∧ (m.withZ (.norm op)).rotAmount = some n
      ∧ ∀ v : Word, v.rotateLeft n = p.2 v := by
  simp only [List.mem_cons, List.not_mem_nil, or_false] at h
  rcases h with rfl | rfl | rfl | rfl
  · exact ⟨.lrot0, 0, rfl, rfl, rotateLeft_zero⟩
  · exact ⟨.lrot12, 12, rfl, rfl, rotateLeft_eq_append (a := 12) (b := 4) (by decide)⟩
  · exact ⟨.lrot8, 8, rfl, rfl, rotateLeft_eq_append (a := 8) (b := 8) (by decide)⟩
  · exact ⟨.lrot4, 4, rfl, rfl, rotateLeft_eq_append (a := 4) (b := 12) (by decide)⟩

end Rotates

/-- Settles O30: the rotate reaches the X bus, and with the operands of R213 the X bus reaches `R[rB]`. -/
theorem rotateRowsComplete : Obligations.RotateRowsComplete := by
  intro m s p hp hruns
  obtain ⟨op, n, hmicro, hamount, hrotate⟩ := rotateRow hp
  have hexec := exec_of_runs hruns
  rw [hmicro] at hexec ⊢
  have hbus : xBus (m.withZ (.norm op)) s = p.2 (rd s.r m.rA) := by rw [xBus_withZ_rotate hamount, hrotate]
  refine ⟨hbus, _, hexec, fun hsrc hfn hdest hreg hcin hmode => ?_⟩
  have hwrite := rd_nextR_of_xBus (m := m.withZ (.norm op)) hsrc hfn hdest hcin hmode
  rwa [hbus, ← cycleNext_r, show (m.withZ (.norm op)).rB = m.rA from hreg] at hwrite

/-! ### U-address mode and the RH load (R216, R218) -/

/-- `RH<-` stores the low byte of the X bus (R218). -/
theorem nextRh_of_rhLoad {m : Micro} (h : m.x = .rhLoad) (s : State) :
    nextRh m s = wr s.rh m.rB ((xBus m s).extractLsb' 0 8) := if_pos h

/-- Settles O31: the two forms of the SU address, and the store of `nextRh_of_rhLoad`. -/
theorem uAddressAndRhLoadRowsComplete : Obligations.UAddressAndRhLoadRowsComplete := by
  intro m s
  refine ⟨fun lo => ⟨suAddr_of_uaddr (m := m.withZ (.uaddr lo)) s rfl, fun op => rfl, rfl, fun hruns => ?_⟩,
    suAddr_of_not_uaddr s, fun hruns => ⟨_, exec_of_runs (i := .xRHLoad m) hruns, ?_, fun j hj => ?_⟩⟩
  · exact ⟨_, exec_of_runs (i := .uaddr lo m) hruns⟩
  · rw [cycleNext_rh, Instr.micro, nextRh_of_rhLoad (m := m.withX .rhLoad) rfl]
    exact rd_wr_same _ _ _
  · rw [cycleNext_rh]
    exact nextRh_other (m.withX .rhLoad) s fun h => hj h.2

end Sys2Proof.Machine
end

section
/-! SUPPORT. The proofs of the statements about memory staging: the address load of cycle 1, the data load of cycle 2, and the
rows `stackP<-` and `Map<-`. -/

namespace Sys2Proof.Machine

/-! ### Staging in cycles 1 and 2 (42_memory_staging.md R231, R234, R235) -/

section Staging

variable {m : Micro} {s : State}

theorem memEvents_of_c1 (h : m.mem = true) (hc : s.cycle = .c1) :
    memEvents m s = [.loadAddressRegister (if m.mapLoad then .mapped else .physical) (rd s.rh m.rB ++ yBus m s)] := by
  rw [memEvents, if_pos h, hc]
  rfl

theorem memEvents_of_c2_load (h : m.mem = true) (hc : s.cycle = .c2) (hpage : s.pageCrossLatch = false)
    (hib : s.ibEmptyLatch = false) : memEvents m s = [.loadDataRegister (yBus m s)] := by
  rw [memEvents, if_pos h, hc, hpage, hib]
  rfl

/-- Either latch cancels the load (R235). -/
theorem memEvents_of_c2_cancel (hc : s.cycle = .c2) (hlatch : s.pageCrossLatch = true ∨ s.ibEmptyLatch = true) :
    memEvents m s = [] := by
  have hcancel : (s.pageCrossLatch || s.ibEmptyLatch) = true := Bool.or_eq_true_iff.mpr hlatch
  rw [memEvents, hc, hcancel]
  exact ite_self _

/-- The bus events of a cycle are those it stages. -/
theorem emitted_isBus_of_memEvents {l : List Event} (h : memEvents m s = l) :
    Emitted s (cycleNext m s) Event.isBus l := emitted_of_filter m s (by rw [cycleEvents_isBus, h])

end Staging

/-! ### The page-cross test (R232, R233) -/

section PageCross

variable {m : Micro} {s : State}

/-- In cycle 1 a memory operation puts the ALU in address-load mode, but for the mapped form (R232, R240). -/
theorem addressLoadMode_of_c1 (h : m.mem = true) (hc : s.cycle = .c1) : addressLoadMode m s = !m.mapLoad := by
  rw [addressLoadMode, h, hc]
  rfl

theorem addressLoadMode_of_mapLoad (h : m.mapLoad = true) : addressLoadMode m s = false := by
  rw [addressLoadMode, h]
  exact Bool.and_false _

theorem pageCrossNow_of_not_addressLoad (h : addressLoadMode m s = false) : pageCrossNow m s = false := by
  rw [pageCrossNow, h, Bool.false_and]

theorem pageCrossNow_iff_of_c1 (h : m.mem = true) (hc : s.cycle = .c1) :
    pageCrossNow m s = true ↔ m.mapLoad = false ∧ (aluOut m s).flags.pageCarry ≠ m.aF.code.getLsbD 0 := by
  rw [pageCrossNow, addressLoadMode_of_c1 h hc, Bool.and_eq_true, Bool.not_eq_true', bne_iff_ne]

theorem cycleNext_pageCrossLatch_of_ne_c3 (h : s.cycle ≠ .c3) :
    (cycleNext m s).pageCrossLatch = (s.pageCrossLatch || pageCrossNow m s) := by
  rw [cycleNext_of_ne_c3 m s h]
  simp

/-- A cycle that crosses sets the latch and modifier bit value 2. -/
theorem cycleNext_of_pageCross (h : pageCrossNow m s = true) (hc : s.cycle ≠ .c3) :
    (cycleNext m s).pageCrossLatch = true
      ∧ modifierOf (cycleNext m s) s.curTask = yBits m s ||| linkBits m s ||| 2 := by
  refine ⟨by rw [cycleNext_pageCrossLatch_of_ne_c3 hc, h, Bool.or_true], ?_⟩
  rw [modifierOf_cycleNext_of_not_clickEnd m s (fun hend => hc hend.2), if_pos h, BitVec.or_assoc, BitVec.or_assoc,
    BitVec.or_comm 2]

/-- A cycle that does not cross leaves the latch and the modifier bits to the others. -/
theorem cycleNext_of_not_pageCross (h : pageCrossNow m s = false) (hc : s.cycle ≠ .c3) :
    (cycleNext m s).pageCrossLatch = s.pageCrossLatch
      ∧ modifierOf (cycleNext m s) s.curTask = yBits m s ||| linkBits m s := by
  refine ⟨by rw [cycleNext_pageCrossLatch_of_ne_c3 hc, h, Bool.or_false], ?_⟩
  rw [modifierOf_cycleNext_of_not_clickEnd m s (fun hend => hc hend.2), h, if_neg Bool.false_ne_true]
  exact congrArg (· ||| linkBits m s) BitVec.or_zero

end PageCross

/-- Settles O32: the load is the cycle's one staged event, and the page-cross test of R233 is the model's. -/
theorem addressLoadInCycleOne : Obligations.AddressLoadInCycleOne := by
  intro m s hc hruns
  have hmem : m.withMem.mem = true := rfl
  have hne : s.cycle ≠ .c3 := by rw [hc]; decide
  refine ⟨_, exec_of_runs (i := .memCycle1 m) hruns, emitted_isBus_of_memEvents (memEvents_of_c1 hmem hc), ?_,
    fun cross hcross => ?_⟩
  · rw [addressLoadMode_of_c1 hmem hc, Bool.not_eq_true']
    rfl
  · have hnow : cross ↔ pageCrossNow m.withMem s = true := hcross.trans (pageCrossNow_iff_of_c1 hmem hc).symm
    rw [hnow, Bool.not_eq_true]
    exact ⟨fun h => cycleNext_of_pageCross h hne, fun h => cycleNext_of_not_pageCross h hne⟩

/-- Settles O33: the latches are read by the staged load alone; no fault and no trap can come in cycle 2. -/
theorem dataLoadInCycleTwo : Obligations.DataLoadInCycleTwo := by
  intro m s hc hruns
  have hne : s.cycle ≠ .c3 := by rw [hc]; decide
  have hfault : Cause.memoryFault ∉ cycleRaises m.withMem s := fun h =>
    hne ((memoryFault_mem_cycleRaises_iff m.withMem s).mp h).2.1
  have htrap : ¬ trapFires m.withMem s := fun h => hne h.2.1
  refine ⟨_, exec_of_runs (i := .memCycle2 m) hruns,
    fun hpage hib => emitted_isBus_of_memEvents (memEvents_of_c2_load rfl hc hpage hib),
    fun hlatch => emitted_isBus_of_memEvents (memEvents_of_c2_cancel hc hlatch), ?_, cycleNext_r s m.withMem,
    cycleNext_q s m.withMem, ?_, fun u => ⟨clickStep_pageCrossLatch u, clickStep_ibEmptyLatch u⟩⟩
  · exact (cycleNext_memoryFault m.withMem s).trans (by rw [decide_eq_false hfault, Bool.or_false]; rfl)
  · exact (congrArg (rd · s.curTask.id) (cycleNext_tpc_of_not_fires m.withMem s htrap)).trans (rd_wr_same _ _ _)

/-! ### The pointer load and the mapped form (R240, R255, R259) -/

theorem nextStackP_of_load {m : Micro} (h : m.loadStackP = true) (s : State) :
    nextStackP m s = (yBus m s).extractLsb' 0 4 := if_pos h

/-- An instruction that does not clear the causes keeps the stack cause, and adds its own tests'. -/
theorem cycleNext_stackCause_iff {m : Micro} (h : m.clrIntErr = false) (s : State) :
    (cycleNext m s).errSet.stack = true
      ↔ s.errSet.stack = true ∨ Cause.stackOverUnderflow ∈ cycleRaises m s := by
  rw [cycleNext_stackCause, h, Bool.not_false, Bool.and_true, Bool.or_eq_true,
    stackOverUnderflow_mem_cycleRaises_iff]

/-- The address load of cycle 1 is all that reads `Map<-`: without `mem`, or in another cycle, neither the ALU's mode nor
the staged event depends on it (R240), and the two cycles are the same by definition. -/
theorem runCycle_withY_map {m : Micro} {s : State} (h : ¬ (m.mem = true ∧ s.cycle = .c1)) :
    runCycle (m.withY (.norm .map)) s = runCycle (m.withY (.norm .noop)) s := by
  simp only [Micro.withY]
  generalize m.planes.z?.getD (.norm .noop) = z
  cases hm : m.mem with
  | false => cases z <;> rfl
  | true =>
    cases hc : s.cycle with
    | c1 => exact absurd ⟨hm, hc⟩ h
    | c2 =>
      have hs : s = { s with cycle := .c2 } := by rw [← hc]
      rw [hs]
      cases z <;> rfl
    | c3 =>
      have hs : s = { s with cycle := .c3 } := by rw [← hc]
      rw [hs]
      cases z <;> rfl

/-- Settles O38: the direct load comes first in the pointer's choice, and the mapped form is no address-load mode. -/
theorem stackLoadAndMapRowsComplete : Obligations.StackLoadAndMapRowsComplete := by
  intro m s
  refine ⟨⟨_, exec_of_runs (i := .yStackPLoad m) (runs_of_not_ibLoad rfl), ?_, cycleNext_stackCause_iff rfl s⟩,
    ⟨_, exec_of_runs (i := .yMap m) (runs_of_not_ibLoad rfl), fun hmem hc => ?_⟩, fun h => ?_⟩
  · rw [cycleNext_stackP]
    exact nextStackP_of_load rfl s
  · have hmode : addressLoadMode (m.withY (.norm .map)) s = false := addressLoadMode_of_mapLoad rfl
    obtain ⟨hlatch, _⟩ := cycleNext_of_not_pageCross (pageCrossNow_of_not_addressLoad hmode) (by rw [hc]; decide)
    exact ⟨hmode, hlatch, emitted_isBus_of_memEvents (memEvents_of_c1 (m := m.withY (.norm .map)) hmem hc)⟩
  · rw [exec_eq_runCycle, exec_eq_runCycle]
    exact runCycle_withY_map h

end Sys2Proof.Machine
end

section
/-! SUPPORT. The proofs of the statements about the Y plane's control rows: the two Kernel operations, the error clear and the
request bit `mint`, the request clears and the refresh strobes. -/

namespace Sys2Proof.Machine

/-! ### The Kernel's wake flag (43_y_control.md R250, R251) -/

section KernelWake

variable {m : Micro} {s : State}

theorem exitNow_of_c1 (h : m.exitKernel = true) (hc : s.cycle = .c1) : exitNow m s = true := by
  rw [exitNow, h, hc]
  rfl

theorem exitNow_of_ne_c1 (h : s.cycle ≠ .c1) : exitNow m s = false := exitNow_eq_false m s fun hexit => h hexit.2

theorem nextWake_of_exitNow (h : exitNow m s = true) : nextWake m s = wr s.wake (Task.id .kernel) false := if_pos h

theorem nextWake_of_enterKernel (hexit : exitNow m s = false) (henter : m.enterKernel = true) :
    nextWake m s = wr s.wake (Task.id .kernel) true := by
  rw [nextWake, hexit, henter]
  rfl

/-- A Kernel that is awake gets the processor, whether it keeps it or the switch rule gives it (49_cycle_click_tasks.md R381,
R382). -/
theorem nextTask_of_kernel_awake (h : rd s.wake (Task.id .kernel) = true) : nextTask s = .kernel := by
  have hrule : switchRule s = .kernel := if_pos h
  rw [nextTask, hrule, ite_self]

/-- The click step reads the wake flags that the cycle leaves. -/
theorem cycleNext_curTask_of_kernel_awake (hc : s.cycle = .c3) (h : rd (nextWake m s) (Task.id .kernel) = true) :
    (cycleNext m s).curTask = .kernel := by
  rw [(cycleNext_boundary m s hc).1]
  exact nextTask_of_kernel_awake (by rwa [preSwitch_wake])

end KernelWake

/-- Settles O36: the exit acts in cycle 1 alone; the entry's wake flag is the one the click step reads. -/
theorem kernelRowsComplete : Obligations.KernelRowsComplete := by
  intro m s
  refine ⟨⟨_, exec_of_runs (i := .yExitKernel m) (runs_of_not_ibLoad rfl), fun hc => ?_, fun hc => ?_, fun hc => ?_⟩,
    _, exec_of_runs (i := .yEnterKernel m) (runs_of_not_ibLoad rfl), ?_⟩
  · have hexit : exitNow (m.withY (.norm .exitKernel)) s = true := exitNow_of_c1 rfl hc
    have hwake : (cycleNext (m.withY (.norm .exitKernel)) s).wake = wr s.wake 7 false :=
      (cycleNext_wake s _).trans (nextWake_of_exitNow hexit)
    refine ⟨?_, ?_, fun k hk => ?_⟩
    · rw [cycleNext_kernelExit_of_ne_c3 _ s (by rw [hc]; decide), Instr.micro, hexit, Bool.or_true]
    · rw [Instr.micro, hwake, rd_wr_same]
    · rw [Instr.micro, hwake, rd_wr_of_ne _ _ hk]
  · rw [cycleNext_kernelExit_of_ne_c3 _ s (by rw [hc]; decide), exitNow_of_ne_c1 (by rw [hc]; decide), Bool.or_false]
  · rw [cycleNext_wake, nextWake_frame _ s (exitNow_of_ne_c1 hc) rfl]
  · have hwake : nextWake (m.withY (.norm .enterKernel)) s = wr s.wake 7 true := nextWake_of_enterKernel rfl rfl
    rw [Instr.micro, cycleNext_wake, hwake]
    refine ⟨rd_wr_same _ _ _, fun k hk => rd_wr_of_ne _ _ hk, ?_, fun hc => ?_⟩
    · rw [cycleNext_waiting]
      exact Bool.and_false _
    · exact cycleNext_curTask_of_kernel_awake hc (by rw [hwake]; exact rd_wr_same _ _ _)

/-! ### The error clear and the bit `mint` (R252, R254) -/

section Interrupts

variable {m : Micro} {s : State}

theorem nextMint_of_clrIntErr (h : m.clrIntErr = true) : nextMint m s = false := if_pos h

theorem nextMint_of_mesaIntRq (hclr : m.clrIntErr = false) (h : m.yNormIs .mesaIntRq = true) : nextMint m s = true := by
  rw [nextMint, hclr, h]
  rfl

/-- The clear comes before the raises of the same cycle, which stay (R252, 49_cycle_click_tasks.md R372). -/
theorem cycleNext_cause_iff_of_clrIntErr (h : m.clrIntErr = true) (c : Cause) :
    (cycleNext m s).errSet.has c = true ↔ c ∈ cycleRaises m s := by
  rw [cycleNext_errSet_has, h, Bool.not_true, Bool.and_false, Bool.false_or, decide_eq_true_iff]

/-- A raise does not restart a running countdown (60_exceptions.md R403). -/
theorem raisedCount_of_pending (h : s.trapCount ≠ 0) : raisedCount m s = s.trapCount := by
  rw [raisedCount_eq, if_pos h]

end Interrupts

/-- Settles O37: the clear empties the causes and leaves the countdown to the click step. -/
theorem interruptRowsComplete : Obligations.InterruptRowsComplete := by
  intro m s
  refine ⟨⟨_, exec_of_runs (i := .yClrIntErr m) (runs_of_not_ibLoad rfl), ?_, cycleNext_cause_iff_of_clrIntErr rfl,
      fun hcount hend => ?_, fun hcount hend => ?_⟩,
    _, exec_of_runs (i := .yMesaIntRq m) (runs_of_not_ibLoad rfl), ?_, fun c => cycleNext_keeps_cause rfl⟩
  · rw [cycleNext_mint, nextMint_of_clrIntErr rfl]
  · rw [cycleNext_trapCount, raisedCount_of_pending hcount]
    exact if_neg hend
  · rw [cycleNext_trapCount, raisedCount_of_pending hcount]
    exact if_pos hend
  · rw [cycleNext_mint, nextMint_of_mesaIntRq rfl rfl]

/-! ### The request clears and the refresh strobes (R257, R260 to R262, R264) -/

section Requests

variable {m : Micro} {s : State}

/-- A cycle that codes neither Kernel operation leaves every wake flag. -/
theorem cycleNext_wake_of_no_kernel_op (henter : m.enterKernel = false) (hexit : m.exitKernel = false) :
    (cycleNext m s).wake = s.wake := by
  have hnow : exitNow m s = false := exitNow_eq_false m s fun h => Bool.eq_false_iff.mp hexit h.1
  rw [cycleNext_wake, nextWake_frame m s hnow henter]

/-- The clear rows code a Y-plane operation whose one event is their clear, and which is no Kernel operation. -/
theorem clearRow {p : Instr × Requester}
    (h : p ∈ ([(.yClrDPRq m, .display), (.yClrIOPRq m, .iop), (.yClrKFlags m, .diskFlags)] : List (Instr × Requester))) :
    (∀ s : State, yEvents p.1.micro s = [.clearRequest p.2]) ∧ p.1.micro.ibLoad = false
      ∧ p.1.micro.enterKernel = false ∧ p.1.micro.exitKernel = false := by
  simp only [List.mem_cons, List.not_mem_nil, or_false] at h
  rcases h with rfl | rfl | rfl
  · exact ⟨fun _ => rfl, rfl, rfl, rfl⟩
  · exact ⟨fun _ => rfl, rfl, rfl, rfl⟩
  · exact ⟨fun _ => rfl, rfl, rfl, rfl⟩

theorem yEvents_of_refresh (h : m.yNormIs .refresh = true) : yEvents m s = [.refresh] := by
  rw [yEvents, of_decide_eq_true h]

/-- The Z plane leaves the strobe to a Y plane that codes it too (R264). -/
theorem zEvents_of_yRefresh (h : m.yNormIs .refresh = true) : zEvents m = [] := by
  rw [zEvents, h, Bool.not_true, Bool.and_false]
  rfl

theorem zEvents_of_refresh_alone (hz : m.zNormIs .refresh = true) (hy : m.yNormIs .refresh = false) :
    zEvents m = [.refresh] := by
  rw [zEvents, hz, hy]
  rfl

/-- One refresh strobe, whichever of the two planes codes it, and also when both do. -/
theorem emitted_refresh (h : m.yNormIs .refresh = true ∨ m.zNormIs .refresh = true) :
    Emitted s (cycleNext m s) Event.isRefresh [.refresh] := by
  refine emitted_of_filter m s ?_
  rw [cycleEvents_isRefresh]
  cases hy : m.yNormIs .refresh with
  | true =>
    rw [yEvents_of_refresh hy, zEvents_of_yRefresh hy]
    rfl
  | false =>
    have hz : m.zNormIs .refresh = true := h.resolve_left (Bool.eq_false_iff.mp hy)
    rw [yEvents_of_no_refresh m s hy, zEvents_of_refresh_alone hz hy]
    rfl

end Requests

/-- Settles O39: a clear is the Y plane's one event; the strobe is one whichever plane codes it. -/
theorem requestAndRefreshRowsComplete : Obligations.RequestAndRefreshRowsComplete := by
  intro m s
  refine ⟨fun p hp => ?_, ?_, fun n hn hruns => ?_⟩
  · obtain ⟨hevents, hload, henter, hexit⟩ := clearRow hp
    refine ⟨_, exec_of_runs (runs_of_not_ibLoad hload), emitted_of_filter _ s ?_,
      cycleNext_wake_of_no_kernel_op henter hexit⟩
    rw [cycleEvents_isClear, hevents]
    rfl
  · exact ⟨_, exec_of_runs (i := .yRefresh m) (runs_of_not_ibLoad rfl), emitted_refresh (.inl rfl),
      cycleNext_wake_of_no_kernel_op rfl rfl⟩
  · subst hn
    exact ⟨_, exec_of_runs (i := .zRefresh m) hruns, emitted_refresh (.inr rfl), cycleNext_wake_of_no_kernel_op⟩

end Sys2Proof.Machine
end

section
/-! SUPPORT. The proofs of the statements about the Y plane's branch and dispatch rows: each row codes one operation, whose bits
are the Y plane's part of the modifier. -/

namespace Sys2Proof.Machine

section Branches

variable {m : Micro} {s : State}

theorem oneBit_eq_ite (c : Bool) : oneBit c = if c then 1 else 0 := by cases c <;> rfl

/-- The two device dispatch signals fill bits 1 and 0 in their own order (44_y_branch.md R281). -/
theorem bits4_of_signals (b3 b2 : Bool) (d : BitVec 2) :
    bits4 b3 b2 (d.getLsbD 1) (d.getLsbD 0) = BitVec.ofBool b3 ++ BitVec.ofBool b2 ++ d := by
  revert b3 b2 d
  decide

theorem yBits_withY_branch (op : YBranch) :
    yBits (m.withY (.branch op)) s = branchBits op (m.withY (.branch op)) s := rfl

/-- A branch or dispatch codes no buffer load, so it always completes, and its bits are ORed with the page-cross bit and the
link return (44_y_branch.md R286, R287). -/
theorem branchRow_completes (op : YBranch) :
    ∃ t, exec (yBranchRow op m) s = .next t
      ∧ (¬ EmulatorClickEnd s → modifierOf t s.curTask
          = branchBits op (yBranchRow op m).micro s ||| (if pageCrossNow (yBranchRow op m).micro s then 2 else 0)
            ||| linkBits (yBranchRow op m).micro s) := by
  have hmicro := yBranchRow_micro m op
  refine ⟨_, exec_of_runs (runs_of_not_ibLoad (by rw [hmicro]; rfl)), fun hend => ?_⟩
  rw [modifierOf_cycleNext_of_not_clickEnd _ s hend, hmicro, yBits_withY_branch]

end Branches

/-- Settles O42: each row's operation contributes its condition as bit 0. -/
theorem oneBitBranchRowsComplete : Obligations.OneBitBranchRowsComplete := by
  intro m s p hp
  obtain ⟨op, hrow, hbits⟩ : ∃ op, p.1 = yBranchRow op m ∧ ∀ n, branchBits op n s = oneBit (p.2 n) := by
    simp only [List.mem_cons, List.not_mem_nil, or_false] at hp
    rcases hp with rfl | rfl | rfl | rfl | rfl | rfl | rfl | rfl
    · exact ⟨.negBr, rfl, fun _ => rfl⟩
    · exact ⟨.zeroBr, rfl, fun _ => rfl⟩
    · exact ⟨.nZeroBr, rfl, fun _ => rfl⟩
    · exact ⟨.mesaIntBr, rfl, fun _ => rfl⟩
    · exact ⟨.pgCarryBr, rfl, fun _ => rfl⟩
    · exact ⟨.carryBr, rfl, fun _ => rfl⟩
    · exact ⟨.xRefBr, rfl, fun _ => rfl⟩
    · exact ⟨.nibCarryBr, rfl, fun _ => rfl⟩
  rw [hrow, ← oneBit_eq_ite, ← hbits]
  exact branchRow_completes op

/-- Settles O43: each row's operation contributes the four bits of its rule; the device signals are `bits4_of_signals`. -/
theorem dispatchRowsComplete : Obligations.DispatchRowsComplete := by
  intro m s p hp
  obtain ⟨op, hrow, hbits⟩ : ∃ op, p.1 = yBranchRow op m ∧ ∀ n, branchBits op n s = p.2 n := by
    simp only [List.mem_cons, List.not_mem_nil, or_false] at hp
    rcases hp with rfl | rfl | rfl | rfl | rfl | rfl | rfl | rfl
    · exact ⟨.xDisp, rfl, fun _ => rfl⟩
    · exact ⟨.yDisp, rfl, fun _ => rfl⟩
    · exact ⟨.xc2npcDisp, rfl, fun _ => rfl⟩
    · exact ⟨.yIODisp, rfl, fun _ => bits4_of_signals _ _ _⟩
    · exact ⟨.xwdDisp, rfl, fun _ => rfl⟩
    · exact ⟨.xhDisp, rfl, fun _ => rfl⟩
    · exact ⟨.xlDisp, rfl, fun _ => rfl⟩
    · exact ⟨.pgCrOvDisp, rfl, fun _ => rfl⟩
  rw [hrow, ← hbits]
  exact branchRow_completes op

end Sys2Proof.Machine
end

section
/-! SUPPORT. The proof of the statement about the Y plane's device writes: each row codes one port, and the write is the one
event of the Y plane. -/

namespace Sys2Proof.Machine

section DeviceWrites

variable {m : Micro} {s : State}

theorem yEvents_withY_out (port : BitVec 4) :
    yEvents (m.withY (.out port)) s = [.deviceWrite port (yBus (m.withY (.out port)) s)] := rfl

/-- Only the Y plane emits device writes, and this one emits its own (45_y_devout.md R290). -/
theorem emitted_deviceWrite (port : BitVec 4) :
    Emitted s (cycleNext (m.withY (.out port)) s) Event.isDeviceWrite
      [.deviceWrite port (yBus (m.withY (.out port)) s)] := by
  refine emitted_of_filter _ s ?_
  rw [cycleEvents_isDeviceWrite, yEvents_withY_out]
  rfl

/-- A device write neither loads nor dispatches, so the buffer moves only by a Z-plane consume (46_ib.md R315). -/
theorem cycleNext_ib_of_out {port : BitVec 4} (hpeek : (m.withY (.out port)).peekAdvances = false)
    (hforce : (m.withY (.out port)).alwaysDisp = false) : (cycleNext (m.withY (.out port)) s).ib = s.ib := by
  have hdisp : (m.withY (.out port)).ibDispRequest = false := by
    rw [Micro.ibDispRequest, hforce]
    rfl
  rw [cycleNext_ib, nextIb_frame _ s rfl hpeek hdisp]

/-- A device write codes no buffer load, so it always completes; it is no Kernel operation and no interrupt operation. -/
theorem outRow_completes (port : BitVec 4) :
    ∃ t, exec (yOutRow port m) s = .next t
      ∧ Emitted s t Event.isDeviceWrite [.deviceWrite port (yBus (yOutRow port m).micro s)]
      ∧ t.wake = s.wake ∧ t.mint = s.mint
      ∧ ((yOutRow port m).micro.peekAdvances = false → (yOutRow port m).micro.alwaysDisp = false → t.ib = s.ib) := by
  have hmicro := yOutRow_micro m port
  refine ⟨_, exec_of_runs (runs_of_not_ibLoad (by rw [hmicro]; rfl)), ?_⟩
  rw [hmicro]
  refine ⟨emitted_deviceWrite port, cycleNext_wake_of_no_kernel_op rfl rfl, ?_, cycleNext_ib_of_out⟩
  rw [cycleNext_mint, nextMint_frame _ s rfl rfl]

end DeviceWrites

/-- Settles O41: each row is the row of its port, and one lemma says what the row of any port does. -/
theorem deviceWriteRowsComplete : Obligations.DeviceWriteRowsComplete := by
  intro m s p hp
  have hrow : p.1 = yOutRow p.2 m := by
    simp only [List.mem_cons, List.not_mem_nil, or_false] at hp
    rcases hp with rfl | rfl | rfl | rfl | rfl | rfl | rfl | rfl | rfl | rfl | rfl | rfl | rfl | rfl | rfl | rfl <;> rfl
  rw [hrow]
  exact outRow_completes p.2

end Sys2Proof.Machine
end

section
/-! SUPPORT. The proofs of the statements about the instruction buffer: the queue of bytes it holds, its load, the loads that are
refused, and the two dispatch requests with the refill trap. -/

namespace Sys2Proof.Machine

/-! ### The buffer as a queue of bytes (46_ib.md R310 to R314) -/

theorem load_of_empty {b : IbData} (h : b.ptr = .empty) (x : Word) :
    b.load x = { front := x.extractLsb' 8 8, pair := x, ptr := .word } := by rw [IbData.load, h]

theorem load_of_byte {b : IbData} (h : b.ptr = .byte) (x : Word) :
    b.load x = { front := b.front, pair := x, ptr := .full } := by rw [IbData.load, h]

theorem ibBytes_of_empty {b : IbData} (h : b.ptr = .empty) : ibBytes b = [] := by rw [ibBytes, h]

theorem ibBytes_of_byte {b : IbData} (h : b.ptr = .byte) : ibBytes b = [b.front] := by rw [ibBytes, h]

/-- Each consume step moves the next byte of the pair to the front. -/
theorem ibBytes_consume (b : IbData) : ibBytes b.consume = (ibBytes b).tail := by
  obtain ⟨front, pair, ptr⟩ := b
  cases ptr with
  | empty => rfl
  | byte => rfl
  | word => rfl
  | full => rfl

theorem ibBytes_load {b : IbData} (h : b.ptr = .empty ∨ b.ptr = .byte) (x : Word) :
    ibBytes (b.load x) = ibBytes b ++ [x.extractLsb' 8 8, x.extractLsb' 0 8] := by
  rcases h with h | h
  · rw [load_of_empty h, ibBytes_of_empty h]
    rfl
  · rw [load_of_byte h, ibBytes_of_byte h]
    rfl

theorem ibBytes_length (b : IbData) : (ibBytes b).length = b.ptr.count.toNat := by
  obtain ⟨front, pair, ptr⟩ := b
  cases ptr with
  | empty => rfl
  | byte => rfl
  | word => rfl
  | full => rfl

theorem ibBytes_head {b : IbData} (h : b.ptr ≠ .empty) : (ibBytes b).head? = some b.front := by
  obtain ⟨front, pair, ptr⟩ := b
  cases ptr with
  | empty => exact absurd rfl h
  | byte => rfl
  | word => rfl
  | full => rfl

/-- Settles O46: one lemma per operation of the queue. -/
theorem bufferIsAByteQueue : Obligations.BufferIsAByteQueue :=
  ⟨ibBytes_consume, fun _ x h => ibBytes_load h x, fun b => ⟨ibBytes_length b, ibBytes_head⟩⟩

/-! ### The load and its refusals (R312, R313) -/

section Loads

variable {m : Micro} {s : State}

/-- A load excludes the consume step (R315). -/
theorem cycleNext_ib_of_ibLoad (h : m.ibLoad = true) : (cycleNext m s).ib = s.ib.load (xBus m s) := by
  rw [cycleNext_ib, nextIb, if_pos h]

theorem hasRoom_iff (p : IbPtr) : p.hasRoom = true ↔ ¬ (p = .word ∨ p = .full) := by cases p <;> decide

/-- Everything the refusal of a load can be: the consume is tested before the room. -/
theorem ibLoadRefusal_eq (m : Micro) (s : State) :
    ibLoadRefusal m s =
      if m.ibLoad = true ∧ (m.alwaysDisp = true ∨ m.peekAdvances = true) then some .ibLoadWithConsume
      else if m.ibLoad = true ∧ (s.ibPtr = .word ∨ s.ibPtr = .full) then some .ibLoadWithoutRoom
      else none := by
  cases hload : m.ibLoad with
  | false => simp [ibLoadRefusal, hload]
  | true => simp [ibLoadRefusal, hload, hasRoom_iff, -not_or]

theorem ibLoadRefusal_eq_withConsume_iff :
    ibLoadRefusal m s = some .ibLoadWithConsume
      ↔ m.ibLoad = true ∧ (m.alwaysDisp = true ∨ m.peekAdvances = true) := by
  rw [ibLoadRefusal_eq]
  split_ifs with hconsume hroom
  · exact iff_of_true rfl hconsume
  · exact iff_of_false nofun hconsume
  · exact iff_of_false nofun hconsume

theorem ibLoadRefusal_eq_withoutRoom_iff :
    ibLoadRefusal m s = some .ibLoadWithoutRoom
      ↔ m.ibLoad = true ∧ m.alwaysDisp = false ∧ m.peekAdvances = false ∧ (s.ibPtr = .word ∨ s.ibPtr = .full) := by
  have hsplit : (m.alwaysDisp = false ∧ m.peekAdvances = false)
      ↔ ¬ (m.alwaysDisp = true ∨ m.peekAdvances = true) := by simp
  rw [ibLoadRefusal_eq, ← and_assoc (a := m.alwaysDisp = false), hsplit]
  split_ifs with hconsume hroom
  · exact iff_of_false nofun fun ⟨_, hno, _⟩ => hno hconsume.2
  · exact iff_of_true rfl ⟨hroom.1, fun h => hconsume ⟨hroom.1, h⟩, hroom.2⟩
  · exact iff_of_false nofun fun ⟨hload, _, hptr⟩ => hroom ⟨hload, hptr⟩

/-- Every row has a meaning (notModelled stands for one without). -/
theorem ibLoadRefusal_ne_notModelled (k : String) : ibLoadRefusal m s ≠ some (.notModelled k) := by
  rw [ibLoadRefusal_eq]
  split_ifs <;> exact nofun

/-- An instruction is refused for the reason its buffer load is. -/
theorem exec_eq_refused_iff (i : Instr) (s : State) (r : Refusal) :
    exec i s = .refused r ↔ ibLoadRefusal i.micro s = some r := by
  rw [exec_eq_runCycle, runCycle]
  cases ibLoadRefusal i.micro s with
  | none => simp
  | some q => simp

end Loads

/-- Settles O47: the row codes a load and, without a consume, has a meaning on an Empty or Byte buffer. -/
theorem bufferLoadRowCompletes : Obligations.BufferLoadRowCompletes := by
  intro m s n hn hforce hpeek
  have hload : n.ibLoad = true := by rw [hn]; rfl
  have hexec (hptr : s.ibPtr = .empty ∨ s.ibPtr = .byte) : exec (.yIBLoad m) s = .next (cycleNext n s) := by
    subst hn
    exact exec_of_runs (i := .yIBLoad m) fun _ => ⟨hforce, hpeek, hptr⟩
  refine ⟨fun hptr => ⟨_, hexec (.inl hptr), ?_⟩, fun hptr => ⟨_, hexec (.inr hptr), ?_⟩⟩
  · rw [← ib_front, ← ib_pair, ← ib_ptr, cycleNext_ib_of_ibLoad hload, load_of_empty hptr]
    exact ⟨rfl, rfl, rfl⟩
  · rw [← ib_front, ← ib_pair, ← ib_ptr, cycleNext_ib_of_ibLoad hload, load_of_byte hptr]
    exact ⟨rfl, rfl, rfl⟩

/-- Settles O48: the model has no fault to answer, and an instruction's refusals are those of its buffer load. -/
theorem bufferLoadWithoutEffectIsRefused : Obligations.BufferLoadWithoutEffectIsRefused := fun i s =>
  ⟨nofun, (exec_eq_refused_iff i s _).trans ibLoadRefusal_eq_withConsume_iff,
    (exec_eq_refused_iff i s _).trans ibLoadRefusal_eq_withoutRoom_iff,
    fun k h => ibLoadRefusal_ne_notModelled k ((exec_eq_refused_iff i s _).mp h)⟩

/-! ### The dispatch requests (R316 to R320) -/

section Dispatch

variable {m : Micro} {s : State}

theorem dispatchPerformed_iff :
    dispatchPerformed m s = true ↔ m.ibDispRequest = true ∧ (s.ibPtr = .full ∨ m.alwaysDisp = true) := by
  simp [dispatchPerformed]

/-- A performed dispatch consumes the byte it merges (R315, R317). -/
theorem cycleNext_ib_of_dispatch (hload : m.ibLoad = false) (h : dispatchPerformed m s = true) :
    (cycleNext m s).ib = s.ib.consume := by
  rw [cycleNext_ib, nextIb, hload, consumeReq, h, Bool.or_true]
  rfl

theorem pendKindOut_of_dispatch (h : dispatchPerformed m s = true) : pendKindOut m s = .ibDisp s.ibFront := if_pos h

/-- A request that is not performed takes the refill trap (R316, R318). -/
theorem pendKindOut_of_refill (hreq : m.ibDispRequest = true) (h : dispatchPerformed m s = false) :
    pendKindOut m s = .refill (decide (s.ibPtr = .empty)) s.mint := by
  rw [pendKindOut, refillTaken, h, hreq]
  rfl

/-- Before a click boundary, and across one where a task other than the Emulator is kept, no trap and no switch stand between a
cycle's merge rule and the next instruction (49_cycle_click_tasks.md R384). -/
theorem cycleNext_pendKind_of_kept
    (h : s.cycle ≠ .c3 ∨ (cycleNext m s).curTask = s.curTask ∧ s.curTask ≠ .emulator) :
    (cycleNext m s).pendKind = pendKindOut m s := by
  rcases h with hc | ⟨hkept, htask⟩
  · exact (cycleNext_carries_over m s (cycleNext_curTask_of_ne_c3 m s hc) fun hfires => hc hfires.2.1).2
  · exact (cycleNext_carries_over m s hkept fun hfires => htask hfires.1).2

/-- A forced dispatch tests for an Empty buffer (R319, R320). -/
theorem ibRaise_of_alwaysDisp (h : m.alwaysDisp = true) : ibRaise m s = decide (s.ibPtr = .empty) := by
  simp [ibRaise, h]

/-- A performed dispatch, whichever plane requests it. -/
theorem dispatch_effects (hload : m.ibLoad = false) (h : dispatchPerformed m s = true) :
    (cycleNext m s).ib = s.ib.consume
      ∧ ((s.cycle ≠ .c3 ∨ (cycleNext m s).curTask = s.curTask ∧ s.curTask ≠ .emulator) →
          (cycleNext m s).pendKind = .ibDisp s.ibFront) :=
  ⟨cycleNext_ib_of_dispatch hload h, fun hkept => (cycleNext_pendKind_of_kept hkept).trans (pendKindOut_of_dispatch h)⟩

/-- A request on a buffer that is not Full, with no forced dispatch: the buffer moves only by an advancing peek (R315), and the
request itself tests nothing. -/
theorem refill_effects (hload : m.ibLoad = false) (hclr : m.clrIntErr = false) (hreq : m.ibDispRequest = true)
    (h : ¬ (s.ibPtr = .full ∨ m.alwaysDisp = true)) :
    (cycleNext m s).ib = (if m.peekAdvances = true then s.ib.consume else s.ib)
      ∧ (m.peeks = false → (cycleNext m s).errSet.ib = s.errSet.ib)
      ∧ ((s.cycle ≠ .c3 ∨ (cycleNext m s).curTask = s.curTask ∧ s.curTask ≠ .emulator) →
          (cycleNext m s).pendKind = .refill (decide (s.ibPtr = .empty)) s.mint) := by
  have hperformed : dispatchPerformed m s = false :=
    Bool.eq_false_iff.mpr fun hd => h (dispatchPerformed_iff.mp hd).2
  obtain ⟨hfull, hforce⟩ := not_or.mp h
  refine ⟨?_, fun hpeeks => ?_, fun hkept => ?_⟩
  · rw [cycleNext_ib, nextIb, hload, consumeReq, hperformed, Bool.or_false]
    rfl
  · rw [ibCause_of_idle m s hpeeks (Bool.eq_false_iff.mpr hforce), hclr]
    exact Bool.and_true _
  · exact (cycleNext_pendKind_of_kept hkept).trans (pendKindOut_of_refill hreq hperformed)

/-- An empty buffer and a pending interrupt choose the target's bits 9 and 8 (R318, notes/assumptions/5.md). -/
theorem specDefault_refillTarget (e k : Bool) :
    Params.specDefault.refillTarget e k = 0#2 ++ BitVec.ofBool (!e) ++ BitVec.ofBool k ++ 0#8 := by
  cases e <;> cases k <;> rfl

end Dispatch

/-- Settles O49: the request codes no load, and is either performed or a refill; a forced dispatch is always performed. -/
theorem dispatchRequestRowsComplete : Obligations.DispatchRequestRowsComplete := by
  refine ⟨fun m s n hn => ?_, fun m s hruns => ?_, rfl, specDefault_refillTarget⟩
  · have hload : n.ibLoad = false := by rw [hn]; rfl
    have hclr : n.clrIntErr = false := by rw [hn]; rfl
    have hreq : n.ibDispRequest = true := by rw [hn]; rfl
    have hexec : exec (.yIBDisp m) s = .next (cycleNext n s) := by
      rw [hn]
      exact exec_of_runs (i := .yIBDisp m) (runs_of_not_ibLoad rfl)
    exact ⟨_, hexec, fun h => dispatch_effects hload (dispatchPerformed_iff.mpr ⟨hreq, h⟩),
      refill_effects hload hclr hreq⟩
  · have hexec := exec_of_runs (i := .zAlwaysIBDisp m) hruns
    have hforce : (m.withZ (.norm .alwaysIBDisp)).alwaysDisp = true := rfl
    have hreq : (m.withZ (.norm .alwaysIBDisp)).ibDispRequest = true := Bool.or_true _
    have hload : (m.withZ (.norm .alwaysIBDisp)).ibLoad = false :=
      Bool.eq_false_iff.mpr fun h => Bool.false_ne_true ((hruns h).1.symm.trans hforce)
    obtain ⟨hib, hkind⟩ := dispatch_effects hload (dispatchPerformed_iff.mpr ⟨hreq, .inr hforce⟩)
    refine ⟨_, hexec, hib, hkind, fun hempty => ?_⟩
    rw [Instr.micro, cycleNext_ibCause, ibRaise_of_alwaysDisp hforce, decide_eq_true hempty]
    exact Bool.or_true _

end Sys2Proof.Machine
end

section
/-! SUPPORT. The proofs of the statements about the stack pointer: its step and its tests, and the six push and pop rows. -/

namespace Sys2Proof.Machine

/-! ### Codings of push and pop (R124) -/

/-- The count of three encodings is positive when one of them is coded. -/
theorem toNat_add_toNat_add_toNat_pos_iff (x y z : Bool) :
    0 < x.toNat + y.toNat + z.toNat ↔ x = true ∨ y = true ∨ z = true := by
  revert x y z
  decide

theorem pushCount_pos_iff (m : Micro) : 0 < m.pushCount ↔ m.pushX = true ∨ m.pushY = true ∨ m.pushZ = true :=
  toNat_add_toNat_add_toNat_pos_iff _ _ _

theorem popCount_pos_iff (m : Micro) : 0 < m.popCount ↔ m.popX = true ∨ m.popY = true ∨ m.popZ = true :=
  toNat_add_toNat_add_toNat_pos_iff _ _ _

/-- The push rows of the three planes each code a push (R258, R338, R342). -/
theorem pushCount_pos_of_pushRow {m : Micro} {i : Instr} (h : i ∈ ([.xPush m, .yPush m, .zPush m] : List Instr)) :
    0 < i.micro.pushCount := by
  rw [pushCount_pos_iff]
  simp only [List.mem_cons, List.not_mem_nil, or_false] at h
  rcases h with rfl | rfl | rfl
  · exact .inl rfl
  · exact .inr (.inl rfl)
  · exact .inr (.inr rfl)

/-- The pop rows of the three planes each code a pop (R263, R337, R341). -/
theorem popCount_pos_of_popRow {m : Micro} {i : Instr} (h : i ∈ ([.xPop m, .yPop m, .zPop m] : List Instr)) :
    0 < i.micro.popCount := by
  rw [popCount_pos_iff]
  simp only [List.mem_cons, List.not_mem_nil, or_false] at h
  rcases h with rfl | rfl | rfl
  · exact .inl rfl
  · exact .inr (.inl rfl)
  · exact .inr (.inr rfl)

/-! ### The pointer's step and its tests (R333 to R336) -/

section Pointer

variable {m : Micro} {s : State}

/-- Without the direct load, any number of pushes is one step up and any number of pops one step down (R333). -/
theorem nextStackP_of_not_load (h : m.loadStackP = false) :
    nextStackP m s
      = s.stackP + (if 0 < m.pushCount then 1 else 0) - (if 0 < m.popCount then 1 else 0) := by
  simp [nextStackP, h, Micro.pushes, Micro.pops]

/-- A nibble's step up and step down, as integers modulo 16. -/
theorem toNat_nibble_step (p : Nibble) (up down : Prop) [Decidable up] [Decidable down] :
    ((p + (if up then 1 else 0) - (if down then 1 else 0) : Nibble).toNat : Int)
      = ((p.toNat : Int) + (if up then 1 else 0) - (if down then 1 else 0)) % 16 := by
  have hp := p.isLt
  have h0 : (0 : Nibble).toNat = 0 := rfl
  have h1 : (1 : Nibble).toNat = 1 := rfl
  split_ifs <;> simp only [BitVec.toNat_add, BitVec.toNat_sub, h0, h1] <;> omega

/-- The three tests of R334 to R336 on the old pointer. -/
theorem stackRaise_iff : stackRaise m s = true ↔
    (0 < m.pushCount ∧ s.stackP = 15) ∨ (m.popCount = 1 ∧ s.stackP = 0)
      ∨ (2 ≤ m.popCount ∧ s.stackP.toNat ≤ 1) := by
  simp only [stackRaise, Micro.testOverflow, Micro.pushes, Micro.testUnderflow, Micro.testDoubleUnderflow,
    Bool.or_eq_true, Bool.and_eq_true, decide_eq_true_eq, or_assoc]

/-- A raise reaches the cause set even where the same cycle clears it (R252). -/
theorem cycleNext_stackCause_of_raise (h : stackRaise m s = true) : (cycleNext m s).errSet.stack = true := by
  rw [cycleNext_stackCause, h, Bool.or_true]

/-- Pushes alone: one step up, wrapping from 15 to 0 with the cause signaled. -/
theorem cycleNext_of_push (hpush : 0 < m.pushCount) (hpop : m.popCount = 0) (hload : m.loadStackP = false) :
    (cycleNext m s).stackP = s.stackP + 1
      ∧ (s.stackP = 15 → (cycleNext m s).stackP = 0 ∧ (cycleNext m s).errSet.stack = true) := by
  have hstep : (cycleNext m s).stackP = s.stackP + 1 := by
    rw [cycleNext_stackP, nextStackP_of_not_load hload, if_pos hpush, hpop]
    exact BitVec.sub_zero _
  refine ⟨hstep, fun htop => ⟨?_, cycleNext_stackCause_of_raise (stackRaise_iff.mpr (.inl ⟨hpush, htop⟩))⟩⟩
  rw [hstep, htop]
  rfl

/-- Pops alone: one step down; a single pop wraps from 0 to 15 with the cause signaled. -/
theorem cycleNext_of_pop (hpop : 0 < m.popCount) (hpush : m.pushCount = 0) (hload : m.loadStackP = false) :
    (cycleNext m s).stackP = s.stackP - 1
      ∧ (m.popCount = 1 → s.stackP = 0 → (cycleNext m s).stackP = 15 ∧ (cycleNext m s).errSet.stack = true) := by
  have hstep : (cycleNext m s).stackP = s.stackP - 1 := by
    rw [cycleNext_stackP, nextStackP_of_not_load hload, if_pos hpop, hpush]
    exact congrArg (· - 1) (BitVec.add_zero s.stackP)
  refine ⟨hstep, fun hone hbottom =>
    ⟨?_, cycleNext_stackCause_of_raise (stackRaise_iff.mpr (.inr (.inl ⟨hone, hbottom⟩)))⟩⟩
  rw [hstep, hbottom]
  rfl

end Pointer

/-- Settles O50: the direct load comes first in the pointer's choice, and the raise is read off the old pointer. -/
theorem stackPointerRule : Obligations.StackPointerRule := by
  refine ⟨fun i s t hexec => ?_,
    fun m s => (stackOverUnderflow_mem_cycleRaises_iff m s).trans stackRaise_iff⟩
  obtain ⟨_, rfl⟩ := exec_next hexec
  refine ⟨fun hload => ?_, fun hload => ?_, ?_⟩
  · rw [cycleNext_stackP, nextStackP_of_load hload]
  · rw [cycleNext_stackP, nextStackP_of_not_load hload]
    exact toNat_nibble_step s.stackP _ _
  · rw [cycleNext_stackCause, stackOverUnderflow_mem_cycleRaises_iff, Bool.or_eq_true, Bool.and_eq_true,
      Bool.not_eq_true', or_comm]

/-- Settles O51: each row codes its own push or pop, so coded alone it takes the step of R333. -/
theorem stackRowsComplete : Obligations.StackRowsComplete := fun _ _ =>
  ⟨fun _ hrow hruns => ⟨_, exec_of_runs hruns, cycleNext_of_push (pushCount_pos_of_pushRow hrow)⟩,
    fun _ hrow hruns => ⟨_, exec_of_runs hruns, cycleNext_of_pop (popCount_pos_of_popRow hrow)⟩⟩

end Sys2Proof.Machine
end

section
/-! SUPPORT. The proofs of the statements about the next address: the call and the return of the eight link codes, and the merge
rule in force. -/

namespace Sys2Proof.Machine

/-! ### Links (48_next_address.md R355 to R357) -/

section Links

variable {m : Micro} {s : State} {i : BitVec 3}

theorem linkIndex_of_link (h : m.x = .link i) : m.linkIndex = some i := by rw [Micro.linkIndex, h]

/-- A call: the low nibble of the computed address is captured. -/
theorem nextLink_of_call (hx : m.x = .link i) (hcall : (nextAddr m s).getLsbD 4 = false) :
    nextLink m s = wr s.link i ((nextAddr m s).extractLsb' 0 4) := by
  rw [nextLink, linkIndex_of_link hx, isReturn, hcall]
  rfl

/-- A return leaves the link registers. -/
theorem nextLink_of_return (hx : m.x = .link i) (hret : (nextAddr m s).getLsbD 4 = true) : nextLink m s = s.link := by
  rw [nextLink, linkIndex_of_link hx, isReturn, hret]
  rfl

theorem linkBits_of_call (hx : m.x = .link i) (hcall : (nextAddr m s).getLsbD 4 = false) : linkBits m s = 0#4 := by
  rw [linkBits, linkIndex_of_link hx, isReturn, hcall]
  rfl

theorem linkBits_of_return (hx : m.x = .link i) (hret : (nextAddr m s).getLsbD 4 = true) :
    linkBits m s = rd s.link i := by
  rw [linkBits, linkIndex_of_link hx, isReturn, hret]
  rfl

/-- A call reaches its link register and adds nothing to the modifier. -/
theorem cycleNext_of_call (hx : m.x = .link i) (hcall : (nextAddr m s).getLsbD 4 = false) :
    rd (cycleNext m s).link i = (nextAddr m s).extractLsb' 0 4
      ∧ (¬ EmulatorClickEnd s → modifierOf (cycleNext m s) s.curTask
          = yBits m s ||| (if pageCrossNow m s then 2 else 0)) := by
  refine ⟨?_, fun hend => ?_⟩
  · rw [cycleNext_link, nextLink_of_call hx hcall, rd_wr_same]
  · rw [modifierOf_cycleNext_of_not_clickEnd m s hend, linkBits_of_call hx hcall, BitVec.or_zero]

/-- A return adds the saved nibble to the modifier. -/
theorem cycleNext_of_return (hx : m.x = .link i) (hret : (nextAddr m s).getLsbD 4 = true) :
    rd (cycleNext m s).link i = rd s.link i
      ∧ (¬ EmulatorClickEnd s → modifierOf (cycleNext m s) s.curTask
          = yBits m s ||| (if pageCrossNow m s then 2 else 0) ||| rd s.link i) := by
  refine ⟨?_, fun hend => ?_⟩
  · rw [cycleNext_link, nextLink_of_return hx hret]
  · rw [modifierOf_cycleNext_of_not_clickEnd m s hend, linkBits_of_return hx hret]

/-- A link code names no other register. -/
theorem cycleNext_link_other {j : BitVec 3} (hx : m.x = .link i) (hj : j ≠ i) :
    rd (cycleNext m s).link j = rd s.link j := by
  have hne : m.x ≠ .link j := fun h => hj (XOp.link.inj (h.symm.trans hx))
  rw [cycleNext_link, nextLink_other m s hne]

end Links

/-- Settles O44: each row codes its own link register, and one lemma each says what a call and a return do. -/
theorem linkRowsComplete : Obligations.LinkRowsComplete := by
  intro m s p hp hruns
  have hx : p.1.micro.x = .link p.2 := by
    simp only [List.mem_cons, List.not_mem_nil, or_false] at hp
    rcases hp with rfl | rfl | rfl | rfl | rfl | rfl | rfl | rfl <;> rfl
  exact ⟨_, exec_of_runs hruns, fun _ => cycleNext_link_other hx, cycleNext_of_call hx, cycleNext_of_return hx⟩

/-! ### The merge rules (R350 to R354) -/

section Merge

variable {m : Micro} {s : State}

/-- A pending error trap forces the plain rule (R354). -/
theorem nextAddr_of_trap_pending (h : s.trapCount ≠ 0) : nextAddr m s = m.inia ||| (0#8 ++ s.niax) :=
  if_pos (Nat.pos_of_ne_zero h)

theorem nextAddr_of_plain (h : s.pendKind = .plain) : nextAddr m s = m.inia ||| (0#8 ++ s.niax) := by
  rw [nextAddr, h]
  exact ite_self _

theorem nextAddr_of_ibDisp {v : Byte} (htrap : s.trapCount = 0) (h : s.pendKind = .ibDisp v) :
    nextAddr m s = (baseAddr m s).extractLsb' 8 4 ++ v.extractLsb' 4 4
      ++ ((baseAddr m s).extractLsb' 0 4 ||| v.extractLsb' 0 4) := by
  rw [nextAddr, htrap, h]
  rfl

theorem nextAddr_of_refill {e k : Bool} (htrap : s.trapCount = 0) (h : s.pendKind = .refill e k) :
    nextAddr m s = (m.inia &&& s.params.refillKeep) ||| s.params.refillTarget e k := by
  rw [nextAddr, htrap, h]
  rfl

theorem not_trapFires_of_not_clickEnd (h : ¬ EmulatorClickEnd s) : ¬ trapFires m s :=
  fun hfires => h ⟨hfires.1, hfires.2.1⟩

/-- Unless the trap is taken the current task continues at the computed address. -/
theorem cycleNext_tpc_current (h : ¬ trapFires m s) : rd (cycleNext m s).tpc s.curTask.id = nextAddr m s := by
  rw [cycleNext_tpc_of_not_fires m s h, rd_wr_same]

end Merge

/-- Settles O45: the counter is the computed address, by cases on the rule in force. -/
theorem nextAddressFollowsTheMergeRule : Obligations.NextAddressFollowsTheMergeRule := by
  refine ⟨fun i s t hexec hend b hb => ?_, fun m s a hruns => ⟨_, exec_of_runs hruns, fun hend hkind => ?_⟩⟩
  · obtain ⟨_, rfl⟩ := exec_next hexec
    rw [cycleNext_tpc_current (not_trapFires_of_not_clickEnd hend), hb]
    by_cases htrap : s.trapCount = 0
    · rw [if_neg (not_not_intro htrap)]
      cases hkind : s.pendKind with
      | plain => exact nextAddr_of_plain hkind
      | ibDisp v => exact nextAddr_of_ibDisp htrap hkind
      | refill e k => exact nextAddr_of_refill htrap hkind
    · rw [if_pos htrap]
      exact nextAddr_of_trap_pending htrap
  · rw [cycleNext_tpc_current (not_trapFires_of_not_clickEnd hend)]
    exact nextAddr_of_plain hkind

end Sys2Proof.Machine
end

section
/-! SUPPORT. The proofs of the statements about cycles, clicks and tasks: what a cycle leaves of the sequencing state on either
side of the click boundary, and that the Kernel keeps the processor while no word codes `ExitKernel`. -/

namespace Sys2Proof.Machine

/-! ### The sequencing state before and at the click boundary (49_cycle_click_tasks.md R374, R380 to R384) -/

section Boundary

variable {m : Micro} {s : State}

theorem cycleNext_cycle_of_ne_c3 (h : s.cycle ≠ .c3) :
    (cycleNext m s).cycle = if s.cycle = .c1 then .c2 else .c3 := by
  rw [cycleNext_of_ne_c3 m s h]

theorem cycleNext_click_of_ne_c3 (h : s.cycle ≠ .c3) : (cycleNext m s).click = s.click := by
  rw [cycleNext_of_ne_c3 m s h]
  simp

theorem cycleNext_cycle_of_c3 (h : s.cycle = .c3) : (cycleNext m s).cycle = .c1 := by
  rw [cycleNext_cycle, h]

theorem cycleNext_click_of_c3 (h : s.cycle = .c3) : (cycleNext m s).click = s.click + 1 := by
  rw [cycleNext_of_c3 m s h]
  simp [clickStep]

/-- The task choice looks at the click that starts (R382, R383). -/
theorem candidate_preSwitch :
    candidate (preSwitch m s) = ClickSlot.task s.params.clickMap[s.click + 1] s.inputs.displayEnabled := by
  simp only [candidate, preSwitch_click, preSwitch_params, preSwitch_inputs]

/-- An exit coded in cycle 3 has no effect, so retention reads the signal as the click left it (R381). -/
theorem kernelRetained_preSwitch (h : s.cycle = .c3) :
    kernelRetained (preSwitch m s) = true ↔ s.curTask = .kernel ∧ s.kernelExit = false := by
  have hexit : exitNow m s = false := exitNow_of_ne_c1 (by rw [h]; decide)
  simp [kernelRetained, hexit]

/-- The task of the next click: retention, then the switch rule (R381, R382, R386). -/
theorem cycleNext_curTask_of_c3 (h : s.cycle = .c3) :
    (cycleNext m s).curTask =
      if s.curTask = .kernel ∧ s.kernelExit = false then .kernel
      else if rd (nextWake m s) (Task.id .kernel) then .kernel
      else if rd (nextWake m s) (candidate (preSwitch m s)).id then candidate (preSwitch m s)
      else .emulator := by
  rw [(cycleNext_boundary m s h).1, nextTask, switchRule, preSwitch_wake]
  simp only [kernelRetained_preSwitch h]

theorem cycleNext_tc_of_kept (h : s.cycle = .c3) (hkept : (cycleNext m s).curTask = s.curTask) :
    (cycleNext m s).tc = s.tc := by
  obtain ⟨_, ⟨_, htc, _⟩ | ⟨hswitch, _⟩⟩ := cycleNext_boundary m s h
  · exact htc
  · exact absurd hkept hswitch

/-- The switch action: the old modifier is saved, the new task's restored, a pending dispatch lost (R384). -/
theorem cycleNext_of_switch (h : s.cycle = .c3) (hswitch : (cycleNext m s).curTask ≠ s.curTask) :
    (cycleNext m s).tc = wr s.tc s.curTask.id (preSwitch m s).niax
      ∧ (cycleNext m s).niax = rd s.tc (cycleNext m s).curTask.id ∧ (cycleNext m s).pendKind = .plain := by
  obtain ⟨_, ⟨hkept, _⟩ | ⟨_, hsaved⟩⟩ := cycleNext_boundary m s h
  · exact absurd hkept hswitch
  · exact hsaved

theorem preSwitch_niax_of_not_clickEnd (h : s.cycle = .c3) (hend : ¬ EmulatorClickEnd s) :
    (preSwitch m s).niax = niaxOut m s := by
  rw [preSwitch_niax, if_neg fun hfires => hend ⟨hfires.1, h⟩]

end Boundary

/-- Settles O54: before cycle 3 only the counter moves; after it each clause is a rule of the click step. -/
theorem tasksSwitchOnlyAtClickBoundaries : Obligations.TasksSwitchOnlyAtClickBoundaries := by
  intro i s t hexec
  obtain ⟨_, rfl⟩ := exec_next hexec
  generalize i.micro = m
  refine ⟨fun hc => ?_, fun hc => ?_⟩
  · have htask := cycleNext_curTask_of_ne_c3 m s hc
    exact ⟨htask, cycleNext_click_of_ne_c3 hc, cycleNext_tc_of_ne_c3 m s hc, cycleNext_cycle_of_ne_c3 hc,
      cycleNext_carries_over m s htask fun hfires => hc hfires.2.1⟩
  · obtain ⟨hpage, hempty, hexit⟩ := cycleNext_latches_of_c3 m s hc
    have hclick := cycleNext_click_of_c3 (m := m) hc
    refine ⟨cycleNext_cycle_of_c3 hc, by rw [hclick]; exact Fin.val_add s.click 1, hpage, hempty, hexit, fun k hk => ?_,
      fun hkept => ⟨cycleNext_tc_of_kept hc hkept, fun hend => ?_⟩, fun hswitch => ?_⟩
    · have hcandidate : candidate (preSwitch m s) = k := by
        rw [candidate_preSwitch, hk]
        simp only [hclick]
      rw [cycleNext_curTask_of_c3 hc, hcandidate, cycleNext_wake]
    · exact cycleNext_carries_over m s hkept (not_trapFires_of_not_clickEnd hend)
    · obtain ⟨hsaved, hrestored, hplain⟩ := cycleNext_of_switch hc hswitch
      refine ⟨hrestored, hplain, fun k hk => ?_, fun hend => ?_⟩
      · rw [hsaved, rd_wr_of_ne _ _ hk]
      · rw [hsaved, rd_wr_same, preSwitch_niax_of_not_clickEnd hc hend]

/-! ### The Kernel keeps the processor (R381, R387) -/

/-- The Kernel is current and no exit is signaled: the retention condition of R381. -/
def KernelHeld (s : State) : Prop := s.curTask = .kernel ∧ s.kernelExit = false

/-- The processor is the Kernel's for good: nothing in the store or in the coming script can signal an exit. -/
structure KernelLocked (s : State) : Prop where
  /-- R381 -/
  held : KernelHeld s
  /-- 43_y_control.md R250 -/
  neverExits : neverExits s
  /-- 20_memory.md R62 -/
  leavesStore : scriptLeavesStore s.script = true

/-- A cycle that signals no exit leaves the Kernel where it is, across a click boundary too. -/
theorem cycleNext_kernelHeld {m : Micro} {s : State} (hexit : exitNow m s = false) (h : KernelHeld s) :
    KernelHeld (cycleNext m s) := by
  by_cases hc : s.cycle = .c3
  · obtain ⟨_, _, hclear⟩ := cycleNext_latches_of_c3 m s hc
    exact ⟨(cycleNext_curTask_of_c3 hc).trans (if_pos h), hclear⟩
  · obtain ⟨htask, hsignal⟩ := h
    exact ⟨(cycleNext_curTask_of_ne_c3 m s hc).trans htask,
      by rw [cycleNext_kernelExit_of_ne_c3 m s hc, hsignal, hexit]; rfl⟩

/-- No act of the environment takes the processor from the Kernel; a reset gives it to the Kernel (10_state.md R49). -/
theorem applyAct_kernelHeld (a : EnvAct) {s : State} (h : KernelHeld s) : KernelHeld (applyAct a s) := by
  cases a with
  | csWrite a w => exact h
  | tpcWriteHigh t b => exact h
  | tpcWriteLow t b => exact h
  | wakeTask t => exact h
  | sleepTask t => exact h
  | reset => exact ⟨rfl, rfl⟩

theorem envPhase_kernelHeld {s : State} (h : KernelHeld s) : KernelHeld (envPhase s) :=
  envPhase_keeps (fun a _ hs => applyAct_kernelHeld a hs) (fun _ _ _ hs => hs) h

/-- The decoder's row stands for the fetched word, so a word that codes no `ExitKernel` signals no exit. -/
theorem exitNow_fetch {s : State} (h : neverExits s) : exitNow (decode (fetch s)).micro s = false := by
  refine exitNow_eq_false _ s fun hexit => Bool.false_ne_true ?_
  rw [decode, principal_micro] at hexit
  exact (h _).symm.trans hexit.1

theorem step_kernelHeld {s t : State} (hexits : neverExits s) (h : KernelHeld s) (hstep : step s = .next t) :
    KernelHeld t := by
  rcases step_next hstep with ⟨_, rfl⟩ | ⟨_, u, hu, rfl⟩
  · exact envPhase_kernelHeld h
  · obtain ⟨_, rfl⟩ := exec_next hu
    exact envPhase_kernelHeld (cycleNext_kernelHeld (exitNow_fetch hexits) h)

theorem neverExits_congr {s t : State} (h : t.cs = s.cs) (hs : neverExits s) : neverExits t :=
  fun a => (csRead_congr h a).symm ▸ hs a

theorem step_kernelLocked {s t : State} (h : KernelLocked s) (hstep : step s = .next t) : KernelLocked t := by
  obtain ⟨hscript, hcs⟩ := step_leavesStore h.leavesStore hstep
  exact ⟨step_kernelHeld h.neverExits h.held hstep, neverExits_congr hcs h.neverExits, hscript⟩

/-- Settles O55: the four premises together are an invariant of the step, and every run keeps it. -/
theorem kernelKeepsTheProcessor : Obligations.KernelKeepsTheProcessor := by
  refine ⟨fun s t htask hsignal hexits hscript hstep => ?_, fun n s t htask hsignal hexits hscript hrun => ?_⟩
  · have hlocked := step_kernelLocked ⟨⟨htask, hsignal⟩, hexits, hscript⟩ hstep
    exact ⟨hlocked.held.1, hlocked.held.2, hlocked.neverExits, hlocked.leavesStore⟩
  · have hlocked : KernelLocked t :=
      run_keeps (M := Sys2Proof.core) (P := KernelLocked) (fun _ _ => step_kernelLocked)
        ⟨⟨htask, hsignal⟩, hexits, hscript⟩ hrun
    exact hlocked.held.1

end Sys2Proof.Machine
end

section
/-! SUPPORT. The proofs of the statements about error causes: what a raise records, and the countdown with the error trap it
ends in. -/

namespace Sys2Proof.Machine

/-! ### Raises (60_exceptions.md R403 to R406) -/

theorem raiseErr_has (c d : Cause) (s : State) : (raiseErr c s).errSet.has d = (s.errSet.has d || decide (d = c)) := by
  simpa only [raiseAll, List.mem_singleton] using raiseAll_has [c] s d

theorem causeCode_injective {c d : Cause} (h : causeCode c = causeCode d) : c = d := by
  revert h
  cases c <;> cases d <;> decide

/-- The code read is that of a signaled cause below which none is signaled. -/
theorem exists_smallest_of_errCode {e : ErrSet} {b : BitVec 2} (h : e.errCode = some b) :
    ∃ c, causeCode c = b ∧ e.has c = true ∧ ∀ d, e.has d = true → (causeCode c).toNat ≤ (causeCode d).toNat := by
  unfold ErrSet.errCode at h
  split_ifs at h with hparity hmemory hstack hib
  · exact ⟨.controlStoreParity, Option.some.inj h, hparity, fun d _ => Nat.zero_le _⟩
  · refine ⟨.memoryFault, Option.some.inj h, hmemory, fun d hd => ?_⟩
    cases d with
    | controlStoreParity => exact absurd hd hparity
    | memoryFault => decide
    | stackOverUnderflow => decide
    | ibEmpty => decide
  · refine ⟨.stackOverUnderflow, Option.some.inj h, hstack, fun d hd => ?_⟩
    cases d with
    | controlStoreParity => exact absurd hd hparity
    | memoryFault => exact absurd hd hmemory
    | stackOverUnderflow => decide
    | ibEmpty => decide
  · refine ⟨.ibEmpty, Option.some.inj h, hib, fun d hd => ?_⟩
    cases d with
    | controlStoreParity => exact absurd hd hparity
    | memoryFault => exact absurd hd hmemory
    | stackOverUnderflow => exact absurd hd hstack
    | ibEmpty => decide

/-- `errCode` is the smallest signaled cause (R406). -/
theorem errCode_eq_some_iff (e : ErrSet) (c : Cause) :
    e.errCode = some (causeCode c)
      ↔ e.has c = true ∧ ∀ d, e.has d = true → (causeCode c).toNat ≤ (causeCode d).toNat := by
  refine ⟨fun h => ?_, fun ⟨hc, hmin⟩ => errCode_of_smallest hc hmin⟩
  obtain ⟨d, hcode, hd⟩ := exists_smallest_of_errCode h
  exact causeCode_injective hcode ▸ hd

/-- Without the trap the modifier of the current task is the one computed. -/
theorem modifierOf_cycleNext_of_not_fires {m : Micro} {s : State} (h : ¬ trapFires m s) :
    modifierOf (cycleNext m s) s.curTask = niaxOut m s := by
  rw [modifierOf_cycleNext]
  exact if_neg h

/-- Settles O52: a raise touches two fields, so the register writes of a cycle are those of its commit. -/
theorem raiseRecordsAndSchedules : Obligations.RaiseRecordsAndSchedules := by
  refine ⟨fun c s => ⟨fun d => raiseErr_has c d s, rfl, rfl⟩, errCode_eq_some_iff, fun i s t hexec => ?_⟩
  obtain ⟨_, rfl⟩ := exec_next hexec
  generalize i.micro = m
  refine ⟨cycleNext_r s m, cycleNext_q s m, cycleNext_su s m, cycleNext_stackP s m, cycleNext_rh s m, cycleNext_link s m,
    cycleNext_ib m s, cycleNext_pc16 s m, fun hend => ?_, cycleNext_errSet_has m s⟩
  have htrap := not_trapFires_of_not_clickEnd (m := m) hend
  exact ⟨cycleNext_tpc_current htrap, modifierOf_cycleNext_of_not_fires htrap⟩

/-! ### The countdown and the trap (R408, R409) -/

section Trap

variable {m : Micro} {s : State}

theorem trapFires_iff : trapFires m s ↔ EmulatorClickEnd s ∧ raisedCount m s = 1 := and_assoc.symm

/-- The trap sends the Emulator to address 0 with nothing pending; whether the Emulator is kept or its modifier is saved for
later, it is 0. -/
theorem cycleNext_of_trapFires (h : trapFires m s) :
    rd (cycleNext m s).tpc 0 = 0 ∧ modifierOf (cycleNext m s) .emulator = 0 ∧ (cycleNext m s).pendKind = .plain := by
  have hmodifier : modifierOf (cycleNext m s) s.curTask = 0 := (modifierOf_cycleNext m s).trans (if_pos h)
  obtain ⟨htask, hcycle, hcount⟩ := h
  refine ⟨?_, htask ▸ hmodifier, ?_⟩
  · rw [cycleNext_tpc_of_fires m s ⟨htask, hcycle, hcount⟩, rd_wr_same]
  · obtain ⟨_, ⟨_, _, _, hkind⟩ | ⟨_, _, _, hkind⟩⟩ := cycleNext_boundary m s hcycle
    · rw [hkind, preSwitch_pendKind, if_pos ⟨htask, hcount⟩]
    · exact hkind

/-- An Emulator click that ends without the trap leaves the counter and the modifier computed, and, if the Emulator is kept, the
merge rule. -/
theorem cycleNext_of_emulator_without_trap (htask : s.curTask = .emulator) (h : ¬ trapFires m s) :
    rd (cycleNext m s).tpc 0 = nextAddr m s ∧ modifierOf (cycleNext m s) .emulator = niaxOut m s
      ∧ ((cycleNext m s).curTask = .emulator → (cycleNext m s).pendKind = pendKindOut m s) := by
  have htpc : rd (cycleNext m s).tpc s.curTask.id = nextAddr m s := cycleNext_tpc_current h
  have hmodifier := modifierOf_cycleNext_of_not_fires h
  rw [htask] at htpc hmodifier
  exact ⟨htpc, hmodifier, fun hkept => (cycleNext_carries_over m s (hkept.trans htask.symm) h).2⟩

end Trap

/-- Settles O53: the countdown falls at the end of an Emulator click only, and the trap fires exactly there and at 1. -/
theorem errorTrapIsTakenByTheEmulator : Obligations.ErrorTrapIsTakenByTheEmulator := by
  intro i s t hexec n hn
  obtain ⟨_, rfl⟩ := exec_next hexec
  obtain rfl : n = raisedCount i.micro s := hn.trans (raisedCount_eq i.micro s).symm
  have hcount := cycleNext_trapCount i.micro s
  refine ⟨fun hend => hcount.trans (if_neg hend), fun hend => ⟨hcount.trans (if_pos hend), fun hone => ?_, fun hne => ?_⟩,
    cycleNext_errSet_has i.micro s⟩
  · exact cycleNext_of_trapFires (trapFires_iff.mpr ⟨hend, hone⟩)
  · exact cycleNext_of_emulator_without_trap hend.1 fun hfires => hne (trapFires_iff.mp hfires).2

end Sys2Proof.Machine
end
